-- ==== Sys2Proof/Syntax.lean ====
section
/-! DEFINITION. The command set: one constructor for each row of spec/opcode_table.json (30_encoding.md R61), with the fields NW and NS of the rows that have them (R64, R65). The pseudo-commands NAN, MNAN and DEFAULT have no constructor (R70): they expand to QNAN, MQNAN and ZERO. -/

namespace Sys2Proof

/-- NW, the width of the narrow operand (30_encoding.md R64). `full` is NW = 00. -/
inductive NarrowWidth where
  | full
  | u8
  | u16
  | u32
  deriving DecidableEq, Repr

/-- NS, which operand is the narrow one (30_encoding.md R60). -/
inductive NarrowSide where
  | b
  | a
  deriving DecidableEq, Repr

/-- The decimal formats (00_scope.md R7). -/
inductive DecFormat where
  | d32
  | d64
  | d128
  | d256
  deriving DecidableEq, Repr

/-- The word widths (00_scope.md R6). -/
inductive WordWidth where
  | u32
  | u64
  deriving DecidableEq, Repr

/-- The wide widths (00_scope.md R6). -/
inductive WideWidth where
  | u128
  | u192
  | u256
  deriving DecidableEq, Repr

/-- A command (30_encoding.md R61). -/
inductive Instr where
  -- ADD (R100, R130)
  | addU32 (nw : NarrowWidth) (ns : NarrowSide)
  | addU64 (nw : NarrowWidth) (ns : NarrowSide)
  | addU128
  | addU192
  | addU256
  -- SUB (R101, R131)
  | subU32 (nw : NarrowWidth) (ns : NarrowSide)
  | subU64 (nw : NarrowWidth) (ns : NarrowSide)
  | subU128
  | subU192
  | subU256
  -- MUL (R102, R132)
  | mulU32 (nw : NarrowWidth) (ns : NarrowSide)
  | mulU64 (nw : NarrowWidth) (ns : NarrowSide)
  | mulU128
  | mulU192
  | mulU256
  -- DIV (R103)
  | divU32 (nw : NarrowWidth) (ns : NarrowSide)
  | divU64 (nw : NarrowWidth) (ns : NarrowSide)
  -- XOR (R105)
  | xorU32 (nw : NarrowWidth) (ns : NarrowSide)
  | xorU64 (nw : NarrowWidth) (ns : NarrowSide)
  -- EQ (R106, R133)
  | eqU32
  | eqU64
  | eqU128
  | eqU192
  | eqU256
  -- ULT (R134)
  | ultU128
  | ultU192
  | ultU256
  -- DECODE (R160)
  | decodeD32
  | decodeD64
  | decodeD128
  | decodeD256
  -- ISZERO (R180)
  | isZeroD32
  | isZeroD64
  | isZeroD128
  | isZeroD256
  -- ISNAN (R181)
  | isNanD32
  | isNanD64
  | isNanD128
  | isNanD256
  -- ISQNAN (R182)
  | isQNanD32
  | isQNanD64
  | isQNanD128
  | isQNanD256
  -- ISSNAN (R183)
  | isSNanD32
  | isSNanD64
  | isSNanD128
  | isSNanD256
  -- ISINF (R184)
  | isInfD32
  | isInfD64
  | isInfD128
  | isInfD256
  -- ISFINITE (R185)
  | isFiniteD32
  | isFiniteD64
  | isFiniteD128
  | isFiniteD256
  -- ISNORMAL (R186)
  | isNormalD32
  | isNormalD64
  | isNormalD128
  | isNormalD256
  -- ZERO (R200)
  | zeroD32
  | zeroD64
  | zeroD128
  | zeroD256
  -- MZERO (R201)
  | mZeroD32
  | mZeroD64
  | mZeroD128
  | mZeroD256
  -- INF (R202)
  | infD32
  | infD64
  | infD128
  | infD256
  -- MINF (R203)
  | mInfD32
  | mInfD64
  | mInfD128
  | mInfD256
  -- QNAN (R204)
  | qNanD32
  | qNanD64
  | qNanD128
  | qNanD256
  -- MQNAN (R205)
  | mQNanD32
  | mQNanD64
  | mQNanD128
  | mQNanD256
  -- SNAN (R206)
  | sNanD32
  | sNanD64
  | sNanD128
  | sNanD256
  -- MSNAN (R207)
  | mSNanD32
  | mSNanD64
  | mSNanD128
  | mSNanD256
  -- MIN (R208)
  | minD32
  | minD64
  | minD128
  | minD256
  -- MAX (R209)
  | maxD32
  | maxD64
  | maxD128
  | maxD256
  deriving DecidableEq, Repr

/-! The rows of one operation, by width. Statements about an operation at every width are written with these. -/

namespace Instr

def addWord : WordWidth → NarrowWidth → NarrowSide → Instr
  | .u32 => .addU32
  | .u64 => .addU64

def subWord : WordWidth → NarrowWidth → NarrowSide → Instr
  | .u32 => .subU32
  | .u64 => .subU64

def mulWord : WordWidth → NarrowWidth → NarrowSide → Instr
  | .u32 => .mulU32
  | .u64 => .mulU64

def divWord : WordWidth → NarrowWidth → NarrowSide → Instr
  | .u32 => .divU32
  | .u64 => .divU64

def xorWord : WordWidth → NarrowWidth → NarrowSide → Instr
  | .u32 => .xorU32
  | .u64 => .xorU64

def eqWord : WordWidth → Instr
  | .u32 => .eqU32
  | .u64 => .eqU64

def addWide : WideWidth → Instr
  | .u128 => .addU128
  | .u192 => .addU192
  | .u256 => .addU256

def subWide : WideWidth → Instr
  | .u128 => .subU128
  | .u192 => .subU192
  | .u256 => .subU256

def mulWide : WideWidth → Instr
  | .u128 => .mulU128
  | .u192 => .mulU192
  | .u256 => .mulU256

def eqWide : WideWidth → Instr
  | .u128 => .eqU128
  | .u192 => .eqU192
  | .u256 => .eqU256

def ultWide : WideWidth → Instr
  | .u128 => .ultU128
  | .u192 => .ultU192
  | .u256 => .ultU256

def decodeDec : DecFormat → Instr
  | .d32 => .decodeD32
  | .d64 => .decodeD64
  | .d128 => .decodeD128
  | .d256 => .decodeD256

def isZeroDec : DecFormat → Instr
  | .d32 => .isZeroD32
  | .d64 => .isZeroD64
  | .d128 => .isZeroD128
  | .d256 => .isZeroD256

def isNanDec : DecFormat → Instr
  | .d32 => .isNanD32
  | .d64 => .isNanD64
  | .d128 => .isNanD128
  | .d256 => .isNanD256

def isQNanDec : DecFormat → Instr
  | .d32 => .isQNanD32
  | .d64 => .isQNanD64
  | .d128 => .isQNanD128
  | .d256 => .isQNanD256

def isSNanDec : DecFormat → Instr
  | .d32 => .isSNanD32
  | .d64 => .isSNanD64
  | .d128 => .isSNanD128
  | .d256 => .isSNanD256

def isInfDec : DecFormat → Instr
  | .d32 => .isInfD32
  | .d64 => .isInfD64
  | .d128 => .isInfD128
  | .d256 => .isInfD256

def isFiniteDec : DecFormat → Instr
  | .d32 => .isFiniteD32
  | .d64 => .isFiniteD64
  | .d128 => .isFiniteD128
  | .d256 => .isFiniteD256

def isNormalDec : DecFormat → Instr
  | .d32 => .isNormalD32
  | .d64 => .isNormalD64
  | .d128 => .isNormalD128
  | .d256 => .isNormalD256

def zeroDec : DecFormat → Instr
  | .d32 => .zeroD32
  | .d64 => .zeroD64
  | .d128 => .zeroD128
  | .d256 => .zeroD256

def mZeroDec : DecFormat → Instr
  | .d32 => .mZeroD32
  | .d64 => .mZeroD64
  | .d128 => .mZeroD128
  | .d256 => .mZeroD256

def infDec : DecFormat → Instr
  | .d32 => .infD32
  | .d64 => .infD64
  | .d128 => .infD128
  | .d256 => .infD256

def mInfDec : DecFormat → Instr
  | .d32 => .mInfD32
  | .d64 => .mInfD64
  | .d128 => .mInfD128
  | .d256 => .mInfD256

def qNanDec : DecFormat → Instr
  | .d32 => .qNanD32
  | .d64 => .qNanD64
  | .d128 => .qNanD128
  | .d256 => .qNanD256

def mQNanDec : DecFormat → Instr
  | .d32 => .mQNanD32
  | .d64 => .mQNanD64
  | .d128 => .mQNanD128
  | .d256 => .mQNanD256

def sNanDec : DecFormat → Instr
  | .d32 => .sNanD32
  | .d64 => .sNanD64
  | .d128 => .sNanD128
  | .d256 => .sNanD256

def mSNanDec : DecFormat → Instr
  | .d32 => .mSNanD32
  | .d64 => .mSNanD64
  | .d128 => .mSNanD128
  | .d256 => .mSNanD256

def minDec : DecFormat → Instr
  | .d32 => .minD32
  | .d64 => .minD64
  | .d128 => .minD128
  | .d256 => .minD256

def maxDec : DecFormat → Instr
  | .d32 => .maxD32
  | .d64 => .maxD64
  | .d128 => .maxD128
  | .d256 => .maxD256

/-- `NAN.dk` (30_encoding.md R70). -/
abbrev nanPseudo (f : DecFormat) : Instr := qNanDec f

/-- `MNAN.dk` (30_encoding.md R70). -/
abbrev mNanPseudo (f : DecFormat) : Instr := mQNanDec f

/-- `DEFAULT.dk` (30_encoding.md R70, 44_constants.md R210). -/
abbrev defaultPseudo (f : DecFormat) : Instr := zeroDec f

end Instr

end Sys2Proof
end

