-- ==== Sys2Proof/Machine/Format.lean ====
section
/-! DEFINITION. The format and width parameters of 00_scope.md R6 to R8. -/

namespace Sys2Proof

/-- k, the width of a decimal word (R7). -/
def DecFormat.width : DecFormat → Nat
  | .d32 => 32
  | .d64 => 64
  | .d128 => 128
  | .d256 => 256

/-- p, the precision in digits (R7). -/
def DecFormat.precision : DecFormat → Nat
  | .d32 => 7
  | .d64 => 16
  | .d128 => 34
  | .d256 => 70

/-- w = k/16 + 4 (R8). -/
def DecFormat.expCont (f : DecFormat) : Nat := f.width / 16 + 4

/-- g = w + 5, the width of the combination field (R8). -/
def DecFormat.combBits (f : DecFormat) : Nat := f.expCont + 5

/-- t = 15k/16 − 10, the width of the trailing field (R8). -/
def DecFormat.trailBits (f : DecFormat) : Nat := 15 * f.width / 16 - 10

/-- ebits = w + 2, the width of the biased exponent (R8). -/
def DecFormat.expBits (f : DecFormat) : Nat := f.expCont + 2

/-- emax = 3·2^(w−1) (R8). -/
def DecFormat.emax (f : DecFormat) : Nat := 3 * 2 ^ (f.expCont - 1)

/-- emin = 1 − emax (R8). -/
def DecFormat.emin (f : DecFormat) : Int := 1 - f.emax

/-- bias = emax + p − 2 (R8). -/
def DecFormat.bias (f : DecFormat) : Nat := f.emax + f.precision - 2

/-- Ebmax = 3·2^w − 1, the largest biased exponent (R8). -/
def DecFormat.maxBiasedExp (f : DecFormat) : Nat := 3 * 2 ^ f.expCont - 1

/-- Cmax = 10^p − 1, the largest canonical coefficient (R7). -/
def DecFormat.maxCoeff (f : DecFormat) : Nat := 10 ^ f.precision - 1

/-- W of a word (R6). -/
def WordWidth.width : WordWidth → Nat
  | .u32 => 32
  | .u64 => 64

/-- W of a wide integer (R6). -/
def WideWidth.width : WideWidth → Nat
  | .u128 => 128
  | .u192 => 192
  | .u256 => 256

end Sys2Proof
end

