-- ==== Sys2Proof/WellFormed.lean ====
section
/-! DEFINITION. Which commands can be written as a command word. -/

namespace Sys2Proof

/-- "NS = 1 is legal only with a non-zero NW" (30_encoding.md R65). -/
def narrowLegal (nw : NarrowWidth) (ns : NarrowSide) : Bool :=
  ns == .b || nw != .full

/-- The one check that a command's fields must pass (30_encoding.md R65). Every other field of the
command word is fixed by the row. -/
def Instr.wellFormed : Instr → Bool
  | .addU32 nw ns | .addU64 nw ns | .subU32 nw ns | .subU64 nw ns | .mulU32 nw ns | .mulU64 nw ns
  | .divU32 nw ns | .divU64 nw ns | .xorU32 nw ns | .xorU64 nw ns => narrowLegal nw ns
  | .addU128 | .addU192 | .addU256 | .subU128 | .subU192 | .subU256
  | .mulU128 | .mulU192 | .mulU256 | .eqU32 | .eqU64 | .eqU128
  | .eqU192 | .eqU256 | .ultU128 | .ultU192 | .ultU256 | .decodeD32
  | .decodeD64 | .decodeD128 | .decodeD256 | .isZeroD32 | .isZeroD64 | .isZeroD128
  | .isZeroD256 | .isNanD32 | .isNanD64 | .isNanD128 | .isNanD256 | .isQNanD32
  | .isQNanD64 | .isQNanD128 | .isQNanD256 | .isSNanD32 | .isSNanD64 | .isSNanD128
  | .isSNanD256 | .isInfD32 | .isInfD64 | .isInfD128 | .isInfD256 | .isFiniteD32
  | .isFiniteD64 | .isFiniteD128 | .isFiniteD256 | .isNormalD32 | .isNormalD64 | .isNormalD128
  | .isNormalD256 | .zeroD32 | .zeroD64 | .zeroD128 | .zeroD256 | .mZeroD32
  | .mZeroD64 | .mZeroD128 | .mZeroD256 | .infD32 | .infD64 | .infD128
  | .infD256 | .mInfD32 | .mInfD64 | .mInfD128 | .mInfD256 | .qNanD32
  | .qNanD64 | .qNanD128 | .qNanD256 | .mQNanD32 | .mQNanD64 | .mQNanD128
  | .mQNanD256 | .sNanD32 | .sNanD64 | .sNanD128 | .sNanD256 | .mSNanD32
  | .mSNanD64 | .mSNanD128 | .mSNanD256 | .minD32 | .minD64 | .minD128
  | .minD256 | .maxD32 | .maxD64 | .maxD128 | .maxD256 => true

end Sys2Proof
end

