-- ==== Sys2Proof/Word.lean ====
section
/-! DEFINITION. The bit-vector types of the interface (10_state.md R22, R24). Every value of the block is unsigned (00_scope.md R11). -/

namespace Sys2Proof

/-- A command word `CMD[15:0]` (30_encoding.md R60). -/
abbrev CmdWord := BitVec 16

/-- An operand or a result, `A[255:0]`, `B[255:0]` or `R[255:0]` (10_state.md R22, R24). -/
abbrev Wide256 := BitVec 256

/-- A 64-bit limb (00_scope.md R6). -/
abbrev Limb := BitVec 64

end Sys2Proof
end

