-- ==== Sys2Proof/Decode.lean ====
section
/-! DEFINITION. The command word: its fields (30_encoding.md R60), the decoder (R61 to R65, R75, R76), and after it the encoder and the assembler text (R69). -/

namespace Sys2Proof

/-! ## Fields (R60) -/

/-- OPC, bits 15:8. -/
def opcField (w : CmdWord) : Nat := w.toNat / 256

/-- WC, bits 7:5. -/
def wcField (w : CmdWord) : Nat := w.toNat / 32 % 8

/-- NW, bits 4:3. -/
def nwField (w : CmdWord) : Nat := w.toNat / 8 % 4

/-- NS, bit 2. -/
def nsField (w : CmdWord) : Nat := w.toNat / 4 % 2

/-- RSV, bits 1:0. -/
def rsvField (w : CmdWord) : Nat := w.toNat % 4

/-! ## Decoder -/

/-- Why a command word is illegal: the four cases of R75. The block itself reports one code for all of them
(60_exceptions.md R232). -/
inductive Illegal where
  | unassignedOpc
  | widthNotLegal
  | narrowNotAllowed
  | reservedNotZero
  deriving DecidableEq, Repr

/-- NW (R64). -/
def narrowWidthOf : Nat → NarrowWidth
  | 0 => .full
  | 1 => .u8
  | 2 => .u16
  | _ => .u32

/-- NS (R60). -/
def narrowSideOf : Nat → NarrowSide
  | 0 => .b
  | _ => .a

/-- A row with NW and NS: "NS = 1 is legal only with a non-zero NW" (R65). -/
def narrowRow (nw ns : Nat) (row : NarrowWidth → NarrowSide → Instr) : Except Illegal Instr :=
  if narrowLegal (narrowWidthOf nw) (narrowSideOf ns) then .ok (row (narrowWidthOf nw) (narrowSideOf ns))
  else .error .narrowNotAllowed

/-- A row without them: "Any other non-zero NW or NS makes the command ILLEGAL" (R65). -/
def plainRow (nw ns : Nat) (row : Instr) : Except Illegal Instr :=
  if nw = 0 ∧ ns = 0 then .ok row else .error .narrowNotAllowed

/-- The word rows of an operation that takes a narrow operand, WC 0 and 1 (R61, R62). -/
def narrowWords (wc nw ns : Nat) (row : WordWidth → NarrowWidth → NarrowSide → Instr) : Except Illegal Instr :=
  match wc with
  | 0 => narrowRow nw ns (row .u32)
  | 1 => narrowRow nw ns (row .u64)
  | _ => .error .widthNotLegal

/-- The word rows of EQ, WC 0 and 1. -/
def plainWords (wc nw ns : Nat) (row : WordWidth → Instr) : Except Illegal Instr :=
  match wc with
  | 0 => plainRow nw ns (row .u32)
  | 1 => plainRow nw ns (row .u64)
  | _ => .error .widthNotLegal

/-- The wide rows of an operation, WC 2, 3 and 4. -/
def wides (wc nw ns : Nat) (row : WideWidth → Instr) : Except Illegal Instr :=
  match wc with
  | 2 => plainRow nw ns (row .u128)
  | 3 => plainRow nw ns (row .u192)
  | 4 => plainRow nw ns (row .u256)
  | _ => .error .widthNotLegal

/-- The decimal rows of an operation, WC 0, 1, 2 and 4; "WC = 3 is illegal for them" (R62). -/
def formats (wc nw ns : Nat) (row : DecFormat → Instr) : Except Illegal Instr :=
  match wc with
  | 0 => plainRow nw ns (row .d32)
  | 1 => plainRow nw ns (row .d64)
  | 2 => plainRow nw ns (row .d128)
  | 4 => plainRow nw ns (row .d256)
  | _ => .error .widthNotLegal

/-- The operation codes (R61), for a word whose RSV is 00. -/
def decodeFields (opc wc nw ns : Nat) : Except Illegal Instr :=
  match opc with
  | 0x01 => if wc ≤ 1 then narrowWords wc nw ns Instr.addWord else wides wc nw ns Instr.addWide
  | 0x02 => if wc ≤ 1 then narrowWords wc nw ns Instr.subWord else wides wc nw ns Instr.subWide
  | 0x03 => if wc ≤ 1 then narrowWords wc nw ns Instr.mulWord else wides wc nw ns Instr.mulWide
  | 0x04 => narrowWords wc nw ns Instr.divWord
  | 0x05 => narrowWords wc nw ns Instr.xorWord
  | 0x06 => if wc ≤ 1 then plainWords wc nw ns Instr.eqWord else wides wc nw ns Instr.eqWide
  | 0x07 => wides wc nw ns Instr.ultWide
  | 0x20 => formats wc nw ns Instr.decodeDec
  | 0x21 => formats wc nw ns Instr.isZeroDec
  | 0x22 => formats wc nw ns Instr.isNanDec
  | 0x23 => formats wc nw ns Instr.isQNanDec
  | 0x24 => formats wc nw ns Instr.isSNanDec
  | 0x25 => formats wc nw ns Instr.isInfDec
  | 0x26 => formats wc nw ns Instr.isFiniteDec
  | 0x27 => formats wc nw ns Instr.isNormalDec
  | 0x30 => formats wc nw ns Instr.zeroDec
  | 0x31 => formats wc nw ns Instr.mZeroDec
  | 0x32 => formats wc nw ns Instr.infDec
  | 0x33 => formats wc nw ns Instr.mInfDec
  | 0x34 => formats wc nw ns Instr.qNanDec
  | 0x35 => formats wc nw ns Instr.mQNanDec
  | 0x36 => formats wc nw ns Instr.sNanDec
  | 0x37 => formats wc nw ns Instr.mSNanDec
  | 0x38 => formats wc nw ns Instr.minDec
  | 0x39 => formats wc nw ns Instr.maxDec
  | _ => .error .unassignedOpc

/-- The decoder: total on the 65536 command words, and a function of CMD alone (R75, R76). -/
def decode (w : CmdWord) : Except Illegal Instr :=
  if rsvField w = 0 then decodeFields (opcField w) (wcField w) (nwField w) (nsField w)
  else .error .reservedNotZero

/-! ## Encoder -/

/-- NW (R64). -/
def NarrowWidth.code : NarrowWidth → Nat
  | .full => 0
  | .u8 => 1
  | .u16 => 2
  | .u32 => 3

/-- NS (R60). -/
def NarrowSide.code : NarrowSide → Nat
  | .b => 0
  | .a => 1

/-- The fields of a command word, RSV apart (it is 00). -/
structure CmdFields where
  opc : Nat
  wc : Nat
  nw : Nat
  ns : Nat
  deriving DecidableEq, Repr

/-- The fields of each row (R61, R62, R64). -/
def Instr.fields : Instr → CmdFields
  | .addU32 nw ns => ⟨0x01, 0, nw.code, ns.code⟩
  | .addU64 nw ns => ⟨0x01, 1, nw.code, ns.code⟩
  | .addU128 => ⟨0x01, 2, 0, 0⟩
  | .addU192 => ⟨0x01, 3, 0, 0⟩
  | .addU256 => ⟨0x01, 4, 0, 0⟩
  | .subU32 nw ns => ⟨0x02, 0, nw.code, ns.code⟩
  | .subU64 nw ns => ⟨0x02, 1, nw.code, ns.code⟩
  | .subU128 => ⟨0x02, 2, 0, 0⟩
  | .subU192 => ⟨0x02, 3, 0, 0⟩
  | .subU256 => ⟨0x02, 4, 0, 0⟩
  | .mulU32 nw ns => ⟨0x03, 0, nw.code, ns.code⟩
  | .mulU64 nw ns => ⟨0x03, 1, nw.code, ns.code⟩
  | .mulU128 => ⟨0x03, 2, 0, 0⟩
  | .mulU192 => ⟨0x03, 3, 0, 0⟩
  | .mulU256 => ⟨0x03, 4, 0, 0⟩
  | .divU32 nw ns => ⟨0x04, 0, nw.code, ns.code⟩
  | .divU64 nw ns => ⟨0x04, 1, nw.code, ns.code⟩
  | .xorU32 nw ns => ⟨0x05, 0, nw.code, ns.code⟩
  | .xorU64 nw ns => ⟨0x05, 1, nw.code, ns.code⟩
  | .eqU32 => ⟨0x06, 0, 0, 0⟩
  | .eqU64 => ⟨0x06, 1, 0, 0⟩
  | .eqU128 => ⟨0x06, 2, 0, 0⟩
  | .eqU192 => ⟨0x06, 3, 0, 0⟩
  | .eqU256 => ⟨0x06, 4, 0, 0⟩
  | .ultU128 => ⟨0x07, 2, 0, 0⟩
  | .ultU192 => ⟨0x07, 3, 0, 0⟩
  | .ultU256 => ⟨0x07, 4, 0, 0⟩
  | .decodeD32 => ⟨0x20, 0, 0, 0⟩
  | .decodeD64 => ⟨0x20, 1, 0, 0⟩
  | .decodeD128 => ⟨0x20, 2, 0, 0⟩
  | .decodeD256 => ⟨0x20, 4, 0, 0⟩
  | .isZeroD32 => ⟨0x21, 0, 0, 0⟩
  | .isZeroD64 => ⟨0x21, 1, 0, 0⟩
  | .isZeroD128 => ⟨0x21, 2, 0, 0⟩
  | .isZeroD256 => ⟨0x21, 4, 0, 0⟩
  | .isNanD32 => ⟨0x22, 0, 0, 0⟩
  | .isNanD64 => ⟨0x22, 1, 0, 0⟩
  | .isNanD128 => ⟨0x22, 2, 0, 0⟩
  | .isNanD256 => ⟨0x22, 4, 0, 0⟩
  | .isQNanD32 => ⟨0x23, 0, 0, 0⟩
  | .isQNanD64 => ⟨0x23, 1, 0, 0⟩
  | .isQNanD128 => ⟨0x23, 2, 0, 0⟩
  | .isQNanD256 => ⟨0x23, 4, 0, 0⟩
  | .isSNanD32 => ⟨0x24, 0, 0, 0⟩
  | .isSNanD64 => ⟨0x24, 1, 0, 0⟩
  | .isSNanD128 => ⟨0x24, 2, 0, 0⟩
  | .isSNanD256 => ⟨0x24, 4, 0, 0⟩
  | .isInfD32 => ⟨0x25, 0, 0, 0⟩
  | .isInfD64 => ⟨0x25, 1, 0, 0⟩
  | .isInfD128 => ⟨0x25, 2, 0, 0⟩
  | .isInfD256 => ⟨0x25, 4, 0, 0⟩
  | .isFiniteD32 => ⟨0x26, 0, 0, 0⟩
  | .isFiniteD64 => ⟨0x26, 1, 0, 0⟩
  | .isFiniteD128 => ⟨0x26, 2, 0, 0⟩
  | .isFiniteD256 => ⟨0x26, 4, 0, 0⟩
  | .isNormalD32 => ⟨0x27, 0, 0, 0⟩
  | .isNormalD64 => ⟨0x27, 1, 0, 0⟩
  | .isNormalD128 => ⟨0x27, 2, 0, 0⟩
  | .isNormalD256 => ⟨0x27, 4, 0, 0⟩
  | .zeroD32 => ⟨0x30, 0, 0, 0⟩
  | .zeroD64 => ⟨0x30, 1, 0, 0⟩
  | .zeroD128 => ⟨0x30, 2, 0, 0⟩
  | .zeroD256 => ⟨0x30, 4, 0, 0⟩
  | .mZeroD32 => ⟨0x31, 0, 0, 0⟩
  | .mZeroD64 => ⟨0x31, 1, 0, 0⟩
  | .mZeroD128 => ⟨0x31, 2, 0, 0⟩
  | .mZeroD256 => ⟨0x31, 4, 0, 0⟩
  | .infD32 => ⟨0x32, 0, 0, 0⟩
  | .infD64 => ⟨0x32, 1, 0, 0⟩
  | .infD128 => ⟨0x32, 2, 0, 0⟩
  | .infD256 => ⟨0x32, 4, 0, 0⟩
  | .mInfD32 => ⟨0x33, 0, 0, 0⟩
  | .mInfD64 => ⟨0x33, 1, 0, 0⟩
  | .mInfD128 => ⟨0x33, 2, 0, 0⟩
  | .mInfD256 => ⟨0x33, 4, 0, 0⟩
  | .qNanD32 => ⟨0x34, 0, 0, 0⟩
  | .qNanD64 => ⟨0x34, 1, 0, 0⟩
  | .qNanD128 => ⟨0x34, 2, 0, 0⟩
  | .qNanD256 => ⟨0x34, 4, 0, 0⟩
  | .mQNanD32 => ⟨0x35, 0, 0, 0⟩
  | .mQNanD64 => ⟨0x35, 1, 0, 0⟩
  | .mQNanD128 => ⟨0x35, 2, 0, 0⟩
  | .mQNanD256 => ⟨0x35, 4, 0, 0⟩
  | .sNanD32 => ⟨0x36, 0, 0, 0⟩
  | .sNanD64 => ⟨0x36, 1, 0, 0⟩
  | .sNanD128 => ⟨0x36, 2, 0, 0⟩
  | .sNanD256 => ⟨0x36, 4, 0, 0⟩
  | .mSNanD32 => ⟨0x37, 0, 0, 0⟩
  | .mSNanD64 => ⟨0x37, 1, 0, 0⟩
  | .mSNanD128 => ⟨0x37, 2, 0, 0⟩
  | .mSNanD256 => ⟨0x37, 4, 0, 0⟩
  | .minD32 => ⟨0x38, 0, 0, 0⟩
  | .minD64 => ⟨0x38, 1, 0, 0⟩
  | .minD128 => ⟨0x38, 2, 0, 0⟩
  | .minD256 => ⟨0x38, 4, 0, 0⟩
  | .maxD32 => ⟨0x39, 0, 0, 0⟩
  | .maxD64 => ⟨0x39, 1, 0, 0⟩
  | .maxD128 => ⟨0x39, 2, 0, 0⟩
  | .maxD256 => ⟨0x39, 4, 0, 0⟩

/-- A command word from its fields (R60). -/
def assembleWord (f : CmdFields) : CmdWord :=
  BitVec.ofNat 16 (f.opc * 256 + f.wc * 32 + f.nw * 8 + f.ns * 4)

/-- The command word of a well-formed command. -/
def encode (i : Instr) : CmdWord := assembleWord i.fields

/-! ## Assembler text (R69) -/

/-- The name of an operation code (R61). -/
def opcName : Nat → String
  | 0x01 => "ADD"
  | 0x02 => "SUB"
  | 0x03 => "MUL"
  | 0x04 => "DIV"
  | 0x05 => "XOR"
  | 0x06 => "EQ"
  | 0x07 => "ULT"
  | 0x20 => "DECODE"
  | 0x21 => "ISZERO"
  | 0x22 => "ISNAN"
  | 0x23 => "ISQNAN"
  | 0x24 => "ISSNAN"
  | 0x25 => "ISINF"
  | 0x26 => "ISFINITE"
  | 0x27 => "ISNORMAL"
  | 0x30 => "ZERO"
  | 0x31 => "MZERO"
  | 0x32 => "INF"
  | 0x33 => "MINF"
  | 0x34 => "QNAN"
  | 0x35 => "MQNAN"
  | 0x36 => "SNAN"
  | 0x37 => "MSNAN"
  | 0x38 => "MIN"
  | 0x39 => "MAX"
  | _ => ""

/-- The width of a width code, in digits (R62). -/
def wcName : Nat → String
  | 0 => "32"
  | 1 => "64"
  | 2 => "128"
  | 3 => "192"
  | 4 => "256"
  | _ => ""

/-- `MNEMONIC.tW`: the type letter is `u` for integer commands and `d` for decimal commands (R69). -/
def Instr.mnemonic (i : Instr) : String :=
  opcName i.fields.opc ++ (if i.fields.opc < 0x20 then ".u" else ".d") ++ wcName i.fields.wc

/-- The width suffix of a narrow operand (R69). -/
def NarrowWidth.suffix : NarrowWidth → String
  | .full => ""
  | .u8 => ":u8"
  | .u16 => ":u16"
  | .u32 => ":u32"

/-- The operands as they are written: two for an integer command, one for a decimal command, none for a
constructor; a narrow operand carries its width after a colon (R69). -/
def Instr.operandText (i : Instr) : String :=
  if i.fields.opc < 0x20 then
    let w := (narrowWidthOf i.fields.nw).suffix
    if i.fields.ns = 0 then " A, B" ++ w else " A" ++ w ++ ", B"
  else if i.fields.opc < 0x30 then " A" else ""

/-- A command in assembler syntax (R69). -/
def Instr.assembly (i : Instr) : String := i.mnemonic ++ i.operandText

/-! ## One word as opcode_table.json numbers its bits -/

/-- The word of `nbits` bits as a command word. A command has 16 bits (R60), and the table gives each row 16. -/
def tableWord (nbits w : Nat) : CmdWord := BitVec.ofNat 16 (w % 2 ^ nbits)

/-- What the decoder reads from a word of the table; none where it refuses, or where the word has a bit above
the 16 of a command. -/
def decodeTableWord (nbits w : Nat) : Option Instr :=
  if w % 2 ^ nbits < 2 ^ 16 then (decode (tableWord nbits w)).toOption else none

end Sys2Proof
end

