-- ==== Sys2Proof/Machine/State.lean ====
section
/-! DEFINITION. What a model of the block holds (10_state.md). The block has no architectural state (R20); what is here is the queue of accepted commands (R21) and the response port (R24). -/

namespace Sys2Proof.Machine

/-- A command with its three inputs (10_state.md R22). -/
structure Command where
  /-- `CMD[15:0]` -/
  cmd : CmdWord
  /-- operand A, limb `a0` least significant -/
  a : Wide256
  /-- operand B, the same -/
  b : Wide256
  deriving DecidableEq, Repr

/-- The outputs that a response carries when STATUS is OK (10_state.md R24). -/
structure Outputs where
  /-- result value -/
  r : Wide256
  /-- predicate result -/
  t : Bool
  /-- DECODE: sign bit -/
  dsign : Bool
  /-- DECODE: class code (R26) -/
  dcls : BitVec 2
  /-- DECODE: biased exponent -/
  dexp : BitVec 32
  /-- DECODE: 1 iff the word is Finite and non-canonical -/
  dnc : Bool
  deriving DecidableEq, Repr

/-- A response (10_state.md R24). `outputs` is none in a fault response: "no output other than STATUS carries
a value" (R24, 60_exceptions.md R231). -/
structure Response where
  /-- `STATUS[1:0]` (R25) -/
  status : BitVec 2
  outputs : Option Outputs
  deriving DecidableEq, Repr

/-- The state of the model. -/
structure State where
  /-- the commands accepted and not yet answered, oldest first (10_state.md R21, 20_memory.md R48) -/
  queue : List Command
  /-- the response being delivered; none outside a response, where the outputs have no value
  (70_reset_and_hazards.md R262). Log 3 -/
  response : Option Response
  deriving DecidableEq, Repr

/-- After reset the block is idle: nothing accepted and unanswered, and no response (70_reset_and_hazards.md
R260, R262). -/
def State.reset : State := ⟨[], none⟩

/-- The two faults of the block (60_exceptions.md R232, R233; R235: there is no other). A fault response is a fault
outcome (R230). Each carries the block's state after that response, since the block is ready for the next
command (R236). Log 1. -/
inductive Fault where
  /-- ILLEGAL, STATUS 1: raised by `step` for a command word that R75 makes illegal. Safe: the spec's own fault. -/
  | illegal (after : State)
  /-- DIVZERO, STATUS 2: raised by DIV.u32 and DIV.u64 for a promoted divisor of 0. Safe: the spec's own fault. -/
  | divZero (after : State)
  deriving DecidableEq, Repr

/-- What the model does not give a meaning to. -/
inductive Refusal where
  /-- An instruction without a meaning yet: raised by a refused arm of `exec`; no arm is refused. Safe. -/
  | notModelled (mnemonic : String)
  /-- A meaning was called with no accepted command to answer: raised by `answer`, never from `step`. Safe.
  Log 8. -/
  | noCommand
  deriving DecidableEq, Repr

end Sys2Proof.Machine
end

