-- ==== Sys2Proof/Machine/Flags.lean ====
section
/-! DEFINITION. The block has no condition codes and no flag register (10_state.md R31). Its 1-bit results are outputs of a response; the outputs of the commands that write one are built here. Each output a command does not write is 0 (10_state.md R24). -/

namespace Sys2Proof.Machine

/-- Every output 0 (10_state.md R24). -/
def Outputs.zero : Outputs := ⟨0, false, false, 0, 0, false⟩

/-- A command that writes R alone. -/
def Outputs.result (v : Wide256) : Outputs := { Outputs.zero with r := v }

/-- A command that writes T alone. -/
def Outputs.predicate (b : Bool) : Outputs := { Outputs.zero with t := b }

/-- EQ: `A_W == B_W` (40_word.md R106, 41_wide.md R133). -/
def equalBit {W : Nat} (a b : BitVec W) : Bool := a.toNat == b.toNat

/-- ULT: `A_W < B_W`, unsigned (41_wide.md R134). -/
def lessBit {W : Nat} (a b : BitVec W) : Bool := decide (a.toNat < b.toNat)

end Sys2Proof.Machine
end

