-- ==== Sys2Proof/Machine/Operands.lean ====
section
/-! DEFINITION. Operand forms: bit fields and limbs (00_scope.md R10, R13), width selection (30_encoding.md R66), promotion of a narrow operand (R67) and result placement (R68). -/

namespace Sys2Proof.Machine

/-- `x[hi:lo]` as a natural (00_scope.md R10). -/
def bits {n : Nat} (x : BitVec n) (hi lo : Nat) : Nat := x.toNat / 2 ^ lo % 2 ^ (hi + 1 - lo)

/-- `L_i(v) = v[64i+63:64i]` (00_scope.md R13). -/
def limb {n : Nat} (v : BitVec n) (i : Nat) : Limb := v.extractLsb' (64 * i) 64

/-- The value of a limb list in ascending significance (00_scope.md R13, 41_wide.md R135). -/
def limbsValue : List Limb → Nat
  | [] => 0
  | l :: ls => l.toNat + 2 ^ 64 * limbsValue ls

/-- A 256-bit operand from its limbs, `a0` first (20_memory.md R41). -/
def ofLimbs (ls : List Limb) : Wide256 := BitVec.ofNat 256 (limbsValue ls)

/-- `A_W` or `B_W`: the low W bits of an input, the rest ignored (30_encoding.md R66). -/
def selectWidth (W : Nat) (x : Wide256) : BitVec W := x.setWidth W

/-- nw, the number of bits that a narrow operand keeps (30_encoding.md R64, R67); all W for NW = 00. -/
def narrowBits (W : Nat) : NarrowWidth → Nat
  | .full => W
  | .u8 => 8
  | .u16 => 16
  | .u32 => 32

/-- An input narrowed to nw bits and zero-extended to W (30_encoding.md R67). -/
def narrowed (W : Nat) (nw : NarrowWidth) (x : Wide256) : BitVec W :=
  (x.setWidth (narrowBits W nw)).setWidth W

/-- A' (30_encoding.md R67). -/
def promotedA (W : Nat) (nw : NarrowWidth) (ns : NarrowSide) (c : Command) : BitVec W :=
  match ns with
  | .a => narrowed W nw c.a
  | .b => selectWidth W c.a

/-- B' (30_encoding.md R67). -/
def promotedB (W : Nat) (nw : NarrowWidth) (ns : NarrowSide) (c : Command) : BitVec W :=
  match ns with
  | .a => selectWidth W c.b
  | .b => narrowed W nw c.b

/-- `zext_256(v)`: a result at bits `[W−1:0]`, with 0 above (30_encoding.md R68). -/
def placeResult {W : Nat} (v : BitVec W) : Wide256 := v.setWidth 256

end Sys2Proof.Machine
end

