-- ==== Sys2Proof/Machine/Ops.lean ====
section
/-! DEFINITION. The shared operations on the queue and the response port: delivering a response (10_state.md R24, 20_memory.md R45, R48), a fault response (60_exceptions.md R230 to R236), and the idle block. There is no trap entry and no return from one (R237, R238), and no memory (20_memory.md R40). -/

namespace Sys2Proof.Machine

/-- The fault kinds (60_exceptions.md R232, R233). -/
inductive FaultKind where
  | illegal
  | divZero
  deriving DecidableEq, Repr

/-- The STATUS code OK (10_state.md R25). -/
def statusOk : BitVec 2 := 0

/-- The STATUS code of a fault (10_state.md R25). -/
def FaultKind.code : FaultKind → BitVec 2
  | .illegal => 1
  | .divZero => 2

/-- An OK response. -/
def Response.ok (o : Outputs) : Response := ⟨statusOk, some o⟩

/-- A fault response: STATUS and no output (60_exceptions.md R231). -/
def Response.fault (k : FaultKind) : Response := ⟨k.code, none⟩

/-- The oldest command leaves the queue with its one response; the younger ones stay as they are
(20_memory.md R48). -/
def State.deliver (s : State) (r : Response) : State := ⟨s.queue.tail, some r⟩

/-- The state outside a response: no output has a value (70_reset_and_hazards.md R262). -/
def State.quiet (s : State) : State := { s with response := none }

/-- A fault, the one operation that ends a command without a result (60_exceptions.md R230). The outcome is a fault,
and the block's state after the fault response goes with it: the command is gone and nothing else is kept
(R231, R236). Log 1. -/
def raiseFault (k : FaultKind) (s : State) : Host.Outcome State Fault Refusal :=
  match k with
  | .illegal => .fault (.illegal (s.deliver (.fault .illegal)))
  | .divZero => .fault (.divZero (s.deliver (.fault .divZero)))

/-- Answers the oldest command with what `f` makes of its inputs: outputs, or a fault. With no command there is
nothing to answer. Log 8. -/
def answer (f : Command → Except FaultKind Outputs) (s : State) : Host.Outcome State Fault Refusal :=
  match s.queue with
  | [] => .refused .noCommand
  | c :: _ =>
    match f c with
    | .ok o => .next (s.deliver (.ok o))
    | .error k => raiseFault k s

/-- A command that writes R alone. -/
def answerResult {W : Nat} (f : Command → BitVec W) : State → Host.Outcome State Fault Refusal :=
  answer fun c => .ok (.result (placeResult (f c)))

/-- A command that writes T alone. -/
def answerPredicate (f : Command → Bool) : State → Host.Outcome State Fault Refusal :=
  answer fun c => .ok (.predicate (f c))

/-- The state a fault leaves (60_exceptions.md R236). -/
def Fault.after : Fault → State
  | .illegal s => s
  | .divZero s => s

/-- The kind of a fault. -/
def Fault.kind : Fault → FaultKind
  | .illegal _ => .illegal
  | .divZero _ => .divZero

/-- A host sends a command: it joins the queue behind the commands accepted before it (20_memory.md R48). -/
def State.accept (s : State) (c : Command) : State := { s with queue := s.queue ++ [c] }

/-- Puts a command word at the head of the queue: the command that is answered next has this word. Its operands stay
those of the command that was there; where none was, the host's operands are A = 1 and B = 1. Log 4. -/
def State.placeWord (s : State) (w : CmdWord) : State :=
  match s.queue with
  | [] => { s with queue := [⟨w, 1, 1⟩] }
  | c :: rest => { s with queue := { c with cmd := w } :: rest }

end Sys2Proof.Machine
end

