-- ==== Sys2Proof/Machine/Bid.lean ====
section
/-! DEFINITION. The decimal word: its layout (30_encoding.md R80 to R89), the decode function (42_decode.md R159), the predicates (43_classify.md) and the canonical words (44_constants.md). -/

namespace Sys2Proof.Machine

/-- The class of a decoded word with what the class gives a meaning to: exponent and coefficient of a Finite word,
payload of a NaN (30_encoding.md R82 to R87). -/
inductive BidValue where
  | finite (e c : Nat)
  | infinite
  | quietNaN (payload : Nat)
  | signalingNaN (payload : Nat)
  deriving DecidableEq, Repr

/-- The decoded view (42_decode.md R159). -/
structure Decoded where
  sign : Bool
  value : BidValue
  deriving DecidableEq, Repr

/-- The sign bit `X[k−1]` (30_encoding.md R81). -/
def signBit (f : DecFormat) (x : BitVec f.width) : Bool := bits x (f.width - 1) (f.width - 1) == 1

/-- The top 5 bits of the combination field, `X[k−2:k−6]` (30_encoding.md R82). -/
def top5 (f : DecFormat) (x : BitVec f.width) : Nat := bits x (f.width - 2) (f.width - 6)

/-- A NaN: the bit after top5 selects the kind, the bits below it are the payload (30_encoding.md R83). -/
def nanValue (f : DecFormat) (x : BitVec f.width) : BidValue :=
  if bits x (f.width - 7) (f.width - 7) = 1 then .signalingNaN (bits x (f.width - 8) 0)
  else .quietNaN (bits x (f.width - 8) 0)

/-- Finite, form 1 (30_encoding.md R84). -/
def form1 (f : DecFormat) (x : BitVec f.width) : BidValue :=
  .finite (bits x (f.width - 2) (f.width - 1 - f.expBits)) (bits x (f.trailBits + 2) 0)

/-- Finite, form 2: the exponent two bits lower, the coefficient with an implicit leading 100
(30_encoding.md R85). -/
def form2 (f : DecFormat) (x : BitVec f.width) : BidValue :=
  .finite (bits x (f.width - 4) (f.width - 3 - f.expBits))
    (2 ^ (f.trailBits + 3) + bits x f.trailBits f.trailBits * 2 ^ f.trailBits + bits x (f.trailBits - 1) 0)

/-- Class selection (30_encoding.md R82). -/
def bidValue (f : DecFormat) (x : BitVec f.width) : BidValue :=
  if top5 f x = 0b11111 then nanValue f x
  else if top5 f x = 0b11110 then .infinite
  else if bits x (f.width - 2) (f.width - 3) = 0b11 then form2 f x
  else form1 f x

/-- `decode_k(X)` (42_decode.md R159). -/
def decodeBid (f : DecFormat) (x : BitVec f.width) : Decoded := ⟨signBit f x, bidValue f x⟩

/-- A coefficient is non-canonical when it exceeds Cmax (30_encoding.md R89). -/
def nonCanonical (f : DecFormat) (c : Nat) : Bool := decide (f.maxCoeff < c)

/-- DCLS (10_state.md R26). -/
def BidValue.code : BidValue → BitVec 2
  | .finite _ _ => 0
  | .infinite => 1
  | .quietNaN _ => 2
  | .signalingNaN _ => 3

/-- The outputs of DECODE (42_decode.md R160 to R163): the raw coefficient or the payload in R, the biased exponent in
DEXP, 0 where the class gives neither. -/
def Decoded.outputs (f : DecFormat) (d : Decoded) : Outputs :=
  let base : Outputs := { Outputs.zero with dsign := d.sign, dcls := d.value.code }
  match d.value with
  | .finite e c => { base with r := BitVec.ofNat 256 c, dexp := BitVec.ofNat 32 e, dnc := nonCanonical f c }
  | .infinite => base
  | .quietNaN p => { base with r := BitVec.ofNat 256 p }
  | .signalingNaN p => { base with r := BitVec.ofNat 256 p }

/-! ## Predicates (43_classify.md) -/

/-- A coefficient that reads as zero: 0, or non-canonical (R180). -/
def zeroCoeff (f : DecFormat) (c : Nat) : Bool := c == 0 || nonCanonical f c

/-- The number of decimal digits of n, for n < 10^fuel. -/
def digitsUpTo : Nat → Nat → Nat
  | 0, _ => 0
  | fuel + 1, n => if n = 0 then 0 else digitsUpTo fuel (n / 10) + 1

/-- `digits10(C)`, for a 256-bit C (R186): 2^256 has 78 digits. -/
def digits10 (n : Nat) : Nat := digitsUpTo 78 n

/-- R180. -/
def isZeroValue (f : DecFormat) : BidValue → Bool
  | .finite _ c => zeroCoeff f c
  | .infinite | .quietNaN _ | .signalingNaN _ => false

/-- R181. -/
def isNanValue : BidValue → Bool
  | .quietNaN _ | .signalingNaN _ => true
  | .finite _ _ | .infinite => false

/-- R182. -/
def isQNanValue : BidValue → Bool
  | .quietNaN _ => true
  | .finite _ _ | .infinite | .signalingNaN _ => false

/-- R183. -/
def isSNanValue : BidValue → Bool
  | .signalingNaN _ => true
  | .finite _ _ | .infinite | .quietNaN _ => false

/-- R184. -/
def isInfValue : BidValue → Bool
  | .infinite => true
  | .finite _ _ | .quietNaN _ | .signalingNaN _ => false

/-- R185. -/
def isFiniteValue : BidValue → Bool
  | .finite _ _ => true
  | .infinite | .quietNaN _ | .signalingNaN _ => false

/-- R186, in its second form: `digits10(C) + E >= p(k)`. The first form, `C * 10^E >= 10^(p-1)`, is a statement about
it: 10^E has millions of digits for d256. Log 11. -/
def isNormalValue (f : DecFormat) : BidValue → Bool
  | .finite e c => !zeroCoeff f c && decide (f.precision ≤ digits10 c + e)
  | .infinite | .quietNaN _ | .signalingNaN _ => false

/-! ## Canonical words (44_constants.md) -/

/-- The sign bit alone, `2^(k-1)` (R201). -/
def signPattern (f : DecFormat) : Nat := 2 ^ (f.width - 1)

/-- R202. -/
def infPattern (f : DecFormat) : Nat := 0b11110 * 2 ^ (f.width - 6)

/-- R204. -/
def qNanPattern (f : DecFormat) : Nat := 0b11111 * 2 ^ (f.width - 6)

/-- R206. -/
def sNanPattern (f : DecFormat) : Nat := 0b111111 * 2 ^ (f.width - 7)

/-- MAXPAT_k: Cmax and Ebmax in the one form that holds Cmax (R209). -/
def maxPattern (f : DecFormat) : Nat :=
  if f.maxCoeff < 2 ^ (f.trailBits + 3) then f.maxBiasedExp * 2 ^ (f.trailBits + 3) + f.maxCoeff
  else 0b11 * 2 ^ (f.width - 3) + f.maxBiasedExp * 2 ^ (f.trailBits + 1)
    + f.maxCoeff / 2 ^ f.trailBits % 2 * 2 ^ f.trailBits + f.maxCoeff % 2 ^ f.trailBits

/-! ## Answers of the decimal commands -/

/-- X = A_k (30_encoding.md R66). -/
def decimalOperand (f : DecFormat) (c : Command) : BitVec f.width := selectWidth f.width c.a

/-- DECODE (42_decode.md R160). -/
def answerDecode (f : DecFormat) : State → Host.Outcome State Fault Refusal :=
  answer fun c => .ok ((decodeBid f (decimalOperand f c)).outputs f)

/-- A predicate of the class and value of X (43_classify.md). -/
def answerClass (f : DecFormat) (p : BidValue → Bool) : State → Host.Outcome State Fault Refusal :=
  answerPredicate fun c => p (decodeBid f (decimalOperand f c)).value

/-- A constructor: the k-bit word of a pattern, whatever the operands are (44_constants.md R199). -/
def answerConstant (f : DecFormat) (pattern : Nat) : State → Host.Outcome State Fault Refusal :=
  answerResult fun _ => BitVec.ofNat f.width pattern

end Sys2Proof.Machine
end

