-- ==== Sys2Proof/Machine/Classifier.lean ====
section
/-! DEFINITION. The classifier predicates (43_classify.md R180 to R186). -/

namespace Sys2Proof.Machine

/-- `ISZERO.d32` (R180). -/
def execIsZeroD32 : State → Host.Outcome State Fault Refusal := answerClass .d32 (isZeroValue .d32)

/-- `ISZERO.d64` (R180). -/
def execIsZeroD64 : State → Host.Outcome State Fault Refusal := answerClass .d64 (isZeroValue .d64)

/-- `ISZERO.d128` (R180). -/
def execIsZeroD128 : State → Host.Outcome State Fault Refusal := answerClass .d128 (isZeroValue .d128)

/-- `ISZERO.d256` (R180). -/
def execIsZeroD256 : State → Host.Outcome State Fault Refusal := answerClass .d256 (isZeroValue .d256)

/-- `ISNAN.d32` (R181). -/
def execIsNanD32 : State → Host.Outcome State Fault Refusal := answerClass .d32 isNanValue

/-- `ISNAN.d64` (R181). -/
def execIsNanD64 : State → Host.Outcome State Fault Refusal := answerClass .d64 isNanValue

/-- `ISNAN.d128` (R181). -/
def execIsNanD128 : State → Host.Outcome State Fault Refusal := answerClass .d128 isNanValue

/-- `ISNAN.d256` (R181). -/
def execIsNanD256 : State → Host.Outcome State Fault Refusal := answerClass .d256 isNanValue

/-- `ISQNAN.d32` (R182). -/
def execIsQNanD32 : State → Host.Outcome State Fault Refusal := answerClass .d32 isQNanValue

/-- `ISQNAN.d64` (R182). -/
def execIsQNanD64 : State → Host.Outcome State Fault Refusal := answerClass .d64 isQNanValue

/-- `ISQNAN.d128` (R182). -/
def execIsQNanD128 : State → Host.Outcome State Fault Refusal := answerClass .d128 isQNanValue

/-- `ISQNAN.d256` (R182). -/
def execIsQNanD256 : State → Host.Outcome State Fault Refusal := answerClass .d256 isQNanValue

/-- `ISSNAN.d32` (R183). -/
def execIsSNanD32 : State → Host.Outcome State Fault Refusal := answerClass .d32 isSNanValue

/-- `ISSNAN.d64` (R183). -/
def execIsSNanD64 : State → Host.Outcome State Fault Refusal := answerClass .d64 isSNanValue

/-- `ISSNAN.d128` (R183). -/
def execIsSNanD128 : State → Host.Outcome State Fault Refusal := answerClass .d128 isSNanValue

/-- `ISSNAN.d256` (R183). -/
def execIsSNanD256 : State → Host.Outcome State Fault Refusal := answerClass .d256 isSNanValue

/-- `ISINF.d32` (R184). -/
def execIsInfD32 : State → Host.Outcome State Fault Refusal := answerClass .d32 isInfValue

/-- `ISINF.d64` (R184). -/
def execIsInfD64 : State → Host.Outcome State Fault Refusal := answerClass .d64 isInfValue

/-- `ISINF.d128` (R184). -/
def execIsInfD128 : State → Host.Outcome State Fault Refusal := answerClass .d128 isInfValue

/-- `ISINF.d256` (R184). -/
def execIsInfD256 : State → Host.Outcome State Fault Refusal := answerClass .d256 isInfValue

/-- `ISFINITE.d32` (R185). -/
def execIsFiniteD32 : State → Host.Outcome State Fault Refusal := answerClass .d32 isFiniteValue

/-- `ISFINITE.d64` (R185). -/
def execIsFiniteD64 : State → Host.Outcome State Fault Refusal := answerClass .d64 isFiniteValue

/-- `ISFINITE.d128` (R185). -/
def execIsFiniteD128 : State → Host.Outcome State Fault Refusal := answerClass .d128 isFiniteValue

/-- `ISFINITE.d256` (R185). -/
def execIsFiniteD256 : State → Host.Outcome State Fault Refusal := answerClass .d256 isFiniteValue

/-- `ISNORMAL.d32` (R186). -/
def execIsNormalD32 : State → Host.Outcome State Fault Refusal := answerClass .d32 (isNormalValue .d32)

/-- `ISNORMAL.d64` (R186). -/
def execIsNormalD64 : State → Host.Outcome State Fault Refusal := answerClass .d64 (isNormalValue .d64)

/-- `ISNORMAL.d128` (R186). -/
def execIsNormalD128 : State → Host.Outcome State Fault Refusal := answerClass .d128 (isNormalValue .d128)

/-- `ISNORMAL.d256` (R186). -/
def execIsNormalD256 : State → Host.Outcome State Fault Refusal := answerClass .d256 (isNormalValue .d256)

end Sys2Proof.Machine
end

