-- ==== Sys2Proof/Machine/Constructors.lean ====
section
/-! DEFINITION. The canonical constructors (44_constants.md R200 to R209). -/

namespace Sys2Proof.Machine

/-- `ZERO.d32` (R200). -/
def execZeroD32 : State → Host.Outcome State Fault Refusal := answerConstant .d32 0

/-- `ZERO.d64` (R200). -/
def execZeroD64 : State → Host.Outcome State Fault Refusal := answerConstant .d64 0

/-- `ZERO.d128` (R200). -/
def execZeroD128 : State → Host.Outcome State Fault Refusal := answerConstant .d128 0

/-- `ZERO.d256` (R200). -/
def execZeroD256 : State → Host.Outcome State Fault Refusal := answerConstant .d256 0

/-- `MZERO.d32` (R201). -/
def execMZeroD32 : State → Host.Outcome State Fault Refusal := answerConstant .d32 (signPattern .d32)

/-- `MZERO.d64` (R201). -/
def execMZeroD64 : State → Host.Outcome State Fault Refusal := answerConstant .d64 (signPattern .d64)

/-- `MZERO.d128` (R201). -/
def execMZeroD128 : State → Host.Outcome State Fault Refusal := answerConstant .d128 (signPattern .d128)

/-- `MZERO.d256` (R201). -/
def execMZeroD256 : State → Host.Outcome State Fault Refusal := answerConstant .d256 (signPattern .d256)

/-- `INF.d32` (R202). -/
def execInfD32 : State → Host.Outcome State Fault Refusal := answerConstant .d32 (infPattern .d32)

/-- `INF.d64` (R202). -/
def execInfD64 : State → Host.Outcome State Fault Refusal := answerConstant .d64 (infPattern .d64)

/-- `INF.d128` (R202). -/
def execInfD128 : State → Host.Outcome State Fault Refusal := answerConstant .d128 (infPattern .d128)

/-- `INF.d256` (R202). -/
def execInfD256 : State → Host.Outcome State Fault Refusal := answerConstant .d256 (infPattern .d256)

/-- `MINF.d32` (R203). -/
def execMInfD32 : State → Host.Outcome State Fault Refusal := answerConstant .d32 (signPattern .d32 + infPattern .d32)

/-- `MINF.d64` (R203). -/
def execMInfD64 : State → Host.Outcome State Fault Refusal := answerConstant .d64 (signPattern .d64 + infPattern .d64)

/-- `MINF.d128` (R203). -/
def execMInfD128 : State → Host.Outcome State Fault Refusal := answerConstant .d128 (signPattern .d128 + infPattern .d128)

/-- `MINF.d256` (R203). -/
def execMInfD256 : State → Host.Outcome State Fault Refusal := answerConstant .d256 (signPattern .d256 + infPattern .d256)

/-- `QNAN.d32` (R204). -/
def execQNanD32 : State → Host.Outcome State Fault Refusal := answerConstant .d32 (qNanPattern .d32)

/-- `QNAN.d64` (R204). -/
def execQNanD64 : State → Host.Outcome State Fault Refusal := answerConstant .d64 (qNanPattern .d64)

/-- `QNAN.d128` (R204). -/
def execQNanD128 : State → Host.Outcome State Fault Refusal := answerConstant .d128 (qNanPattern .d128)

/-- `QNAN.d256` (R204). -/
def execQNanD256 : State → Host.Outcome State Fault Refusal := answerConstant .d256 (qNanPattern .d256)

/-- `MQNAN.d32` (R205). -/
def execMQNanD32 : State → Host.Outcome State Fault Refusal := answerConstant .d32 (signPattern .d32 + qNanPattern .d32)

/-- `MQNAN.d64` (R205). -/
def execMQNanD64 : State → Host.Outcome State Fault Refusal := answerConstant .d64 (signPattern .d64 + qNanPattern .d64)

/-- `MQNAN.d128` (R205). -/
def execMQNanD128 : State → Host.Outcome State Fault Refusal := answerConstant .d128 (signPattern .d128 + qNanPattern .d128)

/-- `MQNAN.d256` (R205). -/
def execMQNanD256 : State → Host.Outcome State Fault Refusal := answerConstant .d256 (signPattern .d256 + qNanPattern .d256)

/-- `SNAN.d32` (R206). -/
def execSNanD32 : State → Host.Outcome State Fault Refusal := answerConstant .d32 (sNanPattern .d32)

/-- `SNAN.d64` (R206). -/
def execSNanD64 : State → Host.Outcome State Fault Refusal := answerConstant .d64 (sNanPattern .d64)

/-- `SNAN.d128` (R206). -/
def execSNanD128 : State → Host.Outcome State Fault Refusal := answerConstant .d128 (sNanPattern .d128)

/-- `SNAN.d256` (R206). -/
def execSNanD256 : State → Host.Outcome State Fault Refusal := answerConstant .d256 (sNanPattern .d256)

/-- `MSNAN.d32` (R207). -/
def execMSNanD32 : State → Host.Outcome State Fault Refusal := answerConstant .d32 (signPattern .d32 + sNanPattern .d32)

/-- `MSNAN.d64` (R207). -/
def execMSNanD64 : State → Host.Outcome State Fault Refusal := answerConstant .d64 (signPattern .d64 + sNanPattern .d64)

/-- `MSNAN.d128` (R207). -/
def execMSNanD128 : State → Host.Outcome State Fault Refusal := answerConstant .d128 (signPattern .d128 + sNanPattern .d128)

/-- `MSNAN.d256` (R207). -/
def execMSNanD256 : State → Host.Outcome State Fault Refusal := answerConstant .d256 (signPattern .d256 + sNanPattern .d256)

/-- `MIN.d32` (R208). -/
def execMinD32 : State → Host.Outcome State Fault Refusal := answerConstant .d32 (signPattern .d32 + maxPattern .d32)

/-- `MIN.d64` (R208). -/
def execMinD64 : State → Host.Outcome State Fault Refusal := answerConstant .d64 (signPattern .d64 + maxPattern .d64)

/-- `MIN.d128` (R208). -/
def execMinD128 : State → Host.Outcome State Fault Refusal := answerConstant .d128 (signPattern .d128 + maxPattern .d128)

/-- `MIN.d256` (R208). -/
def execMinD256 : State → Host.Outcome State Fault Refusal := answerConstant .d256 (signPattern .d256 + maxPattern .d256)

/-- `MAX.d32` (R209). -/
def execMaxD32 : State → Host.Outcome State Fault Refusal := answerConstant .d32 (maxPattern .d32)

/-- `MAX.d64` (R209). -/
def execMaxD64 : State → Host.Outcome State Fault Refusal := answerConstant .d64 (maxPattern .d64)

/-- `MAX.d128` (R209). -/
def execMaxD128 : State → Host.Outcome State Fault Refusal := answerConstant .d128 (maxPattern .d128)

/-- `MAX.d256` (R209). -/
def execMaxD256 : State → Host.Outcome State Fault Refusal := answerConstant .d256 (maxPattern .d256)

end Sys2Proof.Machine
end

