-- ==== Sys2Proof/Machine/Decoder.lean ====
section
/-! DEFINITION. DECODE (42_decode.md R160). -/

namespace Sys2Proof.Machine

/-- `DECODE.d32` (R160). -/
def execDecodeD32 : State → Host.Outcome State Fault Refusal := answerDecode .d32

/-- `DECODE.d64` (R160). -/
def execDecodeD64 : State → Host.Outcome State Fault Refusal := answerDecode .d64

/-- `DECODE.d128` (R160). -/
def execDecodeD128 : State → Host.Outcome State Fault Refusal := answerDecode .d128

/-- `DECODE.d256` (R160). -/
def execDecodeD256 : State → Host.Outcome State Fault Refusal := answerDecode .d256

end Sys2Proof.Machine
end

