-- ==== Sys2Proof/Machine/WordInt.lean ====
section
/-! DEFINITION. The word integer commands (40_word.md). A' and B' are the operands after selection and promotion (30_encoding.md R66, R67). -/

namespace Sys2Proof.Machine

/-- A word command that writes R: `op` on A' and B'. -/
def answerWord (W : Nat) (nw : NarrowWidth) (ns : NarrowSide) (op : BitVec W → BitVec W → BitVec W) :
    State → Host.Outcome State Fault Refusal :=
  answerResult fun c => op (promotedA W nw ns c) (promotedB W nw ns c)

/-- The floor of A' div B', or DIVZERO when B' = 0 (R103, R104). -/
def answerDivide (W : Nat) (nw : NarrowWidth) (ns : NarrowSide) : State → Host.Outcome State Fault Refusal :=
  answer fun c =>
    if promotedB W nw ns c = 0 then .error .divZero
    else .ok (.result (placeResult (promotedA W nw ns c / promotedB W nw ns c)))

/-- EQ of A_W and B_W (R106, 41_wide.md R133). -/
def answerEqual (W : Nat) : State → Host.Outcome State Fault Refusal :=
  answerPredicate fun c => equalBit (selectWidth W c.a) (selectWidth W c.b)

/-- `ADD.u32` (R100). -/
def execAddU32 (nw : NarrowWidth) (ns : NarrowSide) : State → Host.Outcome State Fault Refusal :=
  answerWord 32 nw ns fun a b => a + b

/-- `ADD.u64` (R100). -/
def execAddU64 (nw : NarrowWidth) (ns : NarrowSide) : State → Host.Outcome State Fault Refusal :=
  answerWord 64 nw ns fun a b => a + b

/-- `SUB.u32` (R101). -/
def execSubU32 (nw : NarrowWidth) (ns : NarrowSide) : State → Host.Outcome State Fault Refusal :=
  answerWord 32 nw ns fun a b => a - b

/-- `SUB.u64` (R101). -/
def execSubU64 (nw : NarrowWidth) (ns : NarrowSide) : State → Host.Outcome State Fault Refusal :=
  answerWord 64 nw ns fun a b => a - b

/-- `MUL.u32` (R102). -/
def execMulU32 (nw : NarrowWidth) (ns : NarrowSide) : State → Host.Outcome State Fault Refusal :=
  answerWord 32 nw ns fun a b => a * b

/-- `MUL.u64` (R102). -/
def execMulU64 (nw : NarrowWidth) (ns : NarrowSide) : State → Host.Outcome State Fault Refusal :=
  answerWord 64 nw ns fun a b => a * b

/-- `DIV.u32` (R103, R104). -/
def execDivU32 (nw : NarrowWidth) (ns : NarrowSide) : State → Host.Outcome State Fault Refusal :=
  answerDivide 32 nw ns

/-- `DIV.u64` (R103, R104). -/
def execDivU64 (nw : NarrowWidth) (ns : NarrowSide) : State → Host.Outcome State Fault Refusal :=
  answerDivide 64 nw ns

/-- `XOR.u32` (R105). -/
def execXorU32 (nw : NarrowWidth) (ns : NarrowSide) : State → Host.Outcome State Fault Refusal :=
  answerWord 32 nw ns fun a b => a ^^^ b

/-- `XOR.u64` (R105). -/
def execXorU64 (nw : NarrowWidth) (ns : NarrowSide) : State → Host.Outcome State Fault Refusal :=
  answerWord 64 nw ns fun a b => a ^^^ b

/-- `EQ.u32` (R106). -/
def execEqU32 : State → Host.Outcome State Fault Refusal := answerEqual 32

/-- `EQ.u64` (R106). -/
def execEqU64 : State → Host.Outcome State Fault Refusal := answerEqual 64

end Sys2Proof.Machine
end

