-- ==== Sys2Proof/Machine/WideInt.lean ====
section
/-! DEFINITION. The wide integer commands (41_wide.md). A limb vector is one W-bit integer (R138). -/

namespace Sys2Proof.Machine

/-- A wide command that writes R: `op` on A_W and B_W (30_encoding.md R66). -/
def answerWide (W : Nat) (op : BitVec W → BitVec W → BitVec W) : State → Host.Outcome State Fault Refusal :=
  answerResult fun c => op (selectWidth W c.a) (selectWidth W c.b)

/-- ULT of A_W and B_W (R134). -/
def answerLess (W : Nat) : State → Host.Outcome State Fault Refusal :=
  answerPredicate fun c => lessBit (selectWidth W c.a) (selectWidth W c.b)

/-- `ADD.u128` (R130). -/
def execAddU128 : State → Host.Outcome State Fault Refusal := answerWide 128 fun a b => a + b

/-- `ADD.u192` (R130). -/
def execAddU192 : State → Host.Outcome State Fault Refusal := answerWide 192 fun a b => a + b

/-- `ADD.u256` (R130). -/
def execAddU256 : State → Host.Outcome State Fault Refusal := answerWide 256 fun a b => a + b

/-- `SUB.u128` (R131). -/
def execSubU128 : State → Host.Outcome State Fault Refusal := answerWide 128 fun a b => a - b

/-- `SUB.u192` (R131). -/
def execSubU192 : State → Host.Outcome State Fault Refusal := answerWide 192 fun a b => a - b

/-- `SUB.u256` (R131). -/
def execSubU256 : State → Host.Outcome State Fault Refusal := answerWide 256 fun a b => a - b

/-- `MUL.u128` (R132). -/
def execMulU128 : State → Host.Outcome State Fault Refusal := answerWide 128 fun a b => a * b

/-- `MUL.u192` (R132). -/
def execMulU192 : State → Host.Outcome State Fault Refusal := answerWide 192 fun a b => a * b

/-- `MUL.u256` (R132). -/
def execMulU256 : State → Host.Outcome State Fault Refusal := answerWide 256 fun a b => a * b

/-- `EQ.u128` (R133). -/
def execEqU128 : State → Host.Outcome State Fault Refusal := answerEqual 128

/-- `EQ.u192` (R133). -/
def execEqU192 : State → Host.Outcome State Fault Refusal := answerEqual 192

/-- `EQ.u256` (R133). -/
def execEqU256 : State → Host.Outcome State Fault Refusal := answerEqual 256

/-- `ULT.u128` (R134). -/
def execUltU128 : State → Host.Outcome State Fault Refusal := answerLess 128

/-- `ULT.u192` (R134). -/
def execUltU192 : State → Host.Outcome State Fault Refusal := answerLess 192

/-- `ULT.u256` (R134). -/
def execUltU256 : State → Host.Outcome State Fault Refusal := answerLess 256

end Sys2Proof.Machine
end

