-- ==== Sys2Proof/Machine/Dispatch.lean ====
section
/-! DEFINITION. One arm for each command: its meaning. -/

namespace Sys2Proof.Machine

def exec (i : Instr) (s : State) : Host.Outcome State Fault Refusal :=
  match i with
  | .addU32 nw ns => Sys2Proof.Machine.execAddU32 nw ns s
  | .addU64 nw ns => Sys2Proof.Machine.execAddU64 nw ns s
  | .addU128 => Sys2Proof.Machine.execAddU128 s
  | .addU192 => Sys2Proof.Machine.execAddU192 s
  | .addU256 => Sys2Proof.Machine.execAddU256 s
  | .subU32 nw ns => Sys2Proof.Machine.execSubU32 nw ns s
  | .subU64 nw ns => Sys2Proof.Machine.execSubU64 nw ns s
  | .subU128 => Sys2Proof.Machine.execSubU128 s
  | .subU192 => Sys2Proof.Machine.execSubU192 s
  | .subU256 => Sys2Proof.Machine.execSubU256 s
  | .mulU32 nw ns => Sys2Proof.Machine.execMulU32 nw ns s
  | .mulU64 nw ns => Sys2Proof.Machine.execMulU64 nw ns s
  | .mulU128 => Sys2Proof.Machine.execMulU128 s
  | .mulU192 => Sys2Proof.Machine.execMulU192 s
  | .mulU256 => Sys2Proof.Machine.execMulU256 s
  | .divU32 nw ns => Sys2Proof.Machine.execDivU32 nw ns s
  | .divU64 nw ns => Sys2Proof.Machine.execDivU64 nw ns s
  | .xorU32 nw ns => Sys2Proof.Machine.execXorU32 nw ns s
  | .xorU64 nw ns => Sys2Proof.Machine.execXorU64 nw ns s
  | .eqU32 => Sys2Proof.Machine.execEqU32 s
  | .eqU64 => Sys2Proof.Machine.execEqU64 s
  | .eqU128 => Sys2Proof.Machine.execEqU128 s
  | .eqU192 => Sys2Proof.Machine.execEqU192 s
  | .eqU256 => Sys2Proof.Machine.execEqU256 s
  | .ultU128 => Sys2Proof.Machine.execUltU128 s
  | .ultU192 => Sys2Proof.Machine.execUltU192 s
  | .ultU256 => Sys2Proof.Machine.execUltU256 s
  | .decodeD32 => Sys2Proof.Machine.execDecodeD32 s
  | .decodeD64 => Sys2Proof.Machine.execDecodeD64 s
  | .decodeD128 => Sys2Proof.Machine.execDecodeD128 s
  | .decodeD256 => Sys2Proof.Machine.execDecodeD256 s
  | .isZeroD32 => Sys2Proof.Machine.execIsZeroD32 s
  | .isZeroD64 => Sys2Proof.Machine.execIsZeroD64 s
  | .isZeroD128 => Sys2Proof.Machine.execIsZeroD128 s
  | .isZeroD256 => Sys2Proof.Machine.execIsZeroD256 s
  | .isNanD32 => Sys2Proof.Machine.execIsNanD32 s
  | .isNanD64 => Sys2Proof.Machine.execIsNanD64 s
  | .isNanD128 => Sys2Proof.Machine.execIsNanD128 s
  | .isNanD256 => Sys2Proof.Machine.execIsNanD256 s
  | .isQNanD32 => Sys2Proof.Machine.execIsQNanD32 s
  | .isQNanD64 => Sys2Proof.Machine.execIsQNanD64 s
  | .isQNanD128 => Sys2Proof.Machine.execIsQNanD128 s
  | .isQNanD256 => Sys2Proof.Machine.execIsQNanD256 s
  | .isSNanD32 => Sys2Proof.Machine.execIsSNanD32 s
  | .isSNanD64 => Sys2Proof.Machine.execIsSNanD64 s
  | .isSNanD128 => Sys2Proof.Machine.execIsSNanD128 s
  | .isSNanD256 => Sys2Proof.Machine.execIsSNanD256 s
  | .isInfD32 => Sys2Proof.Machine.execIsInfD32 s
  | .isInfD64 => Sys2Proof.Machine.execIsInfD64 s
  | .isInfD128 => Sys2Proof.Machine.execIsInfD128 s
  | .isInfD256 => Sys2Proof.Machine.execIsInfD256 s
  | .isFiniteD32 => Sys2Proof.Machine.execIsFiniteD32 s
  | .isFiniteD64 => Sys2Proof.Machine.execIsFiniteD64 s
  | .isFiniteD128 => Sys2Proof.Machine.execIsFiniteD128 s
  | .isFiniteD256 => Sys2Proof.Machine.execIsFiniteD256 s
  | .isNormalD32 => Sys2Proof.Machine.execIsNormalD32 s
  | .isNormalD64 => Sys2Proof.Machine.execIsNormalD64 s
  | .isNormalD128 => Sys2Proof.Machine.execIsNormalD128 s
  | .isNormalD256 => Sys2Proof.Machine.execIsNormalD256 s
  | .zeroD32 => Sys2Proof.Machine.execZeroD32 s
  | .zeroD64 => Sys2Proof.Machine.execZeroD64 s
  | .zeroD128 => Sys2Proof.Machine.execZeroD128 s
  | .zeroD256 => Sys2Proof.Machine.execZeroD256 s
  | .mZeroD32 => Sys2Proof.Machine.execMZeroD32 s
  | .mZeroD64 => Sys2Proof.Machine.execMZeroD64 s
  | .mZeroD128 => Sys2Proof.Machine.execMZeroD128 s
  | .mZeroD256 => Sys2Proof.Machine.execMZeroD256 s
  | .infD32 => Sys2Proof.Machine.execInfD32 s
  | .infD64 => Sys2Proof.Machine.execInfD64 s
  | .infD128 => Sys2Proof.Machine.execInfD128 s
  | .infD256 => Sys2Proof.Machine.execInfD256 s
  | .mInfD32 => Sys2Proof.Machine.execMInfD32 s
  | .mInfD64 => Sys2Proof.Machine.execMInfD64 s
  | .mInfD128 => Sys2Proof.Machine.execMInfD128 s
  | .mInfD256 => Sys2Proof.Machine.execMInfD256 s
  | .qNanD32 => Sys2Proof.Machine.execQNanD32 s
  | .qNanD64 => Sys2Proof.Machine.execQNanD64 s
  | .qNanD128 => Sys2Proof.Machine.execQNanD128 s
  | .qNanD256 => Sys2Proof.Machine.execQNanD256 s
  | .mQNanD32 => Sys2Proof.Machine.execMQNanD32 s
  | .mQNanD64 => Sys2Proof.Machine.execMQNanD64 s
  | .mQNanD128 => Sys2Proof.Machine.execMQNanD128 s
  | .mQNanD256 => Sys2Proof.Machine.execMQNanD256 s
  | .sNanD32 => Sys2Proof.Machine.execSNanD32 s
  | .sNanD64 => Sys2Proof.Machine.execSNanD64 s
  | .sNanD128 => Sys2Proof.Machine.execSNanD128 s
  | .sNanD256 => Sys2Proof.Machine.execSNanD256 s
  | .mSNanD32 => Sys2Proof.Machine.execMSNanD32 s
  | .mSNanD64 => Sys2Proof.Machine.execMSNanD64 s
  | .mSNanD128 => Sys2Proof.Machine.execMSNanD128 s
  | .mSNanD256 => Sys2Proof.Machine.execMSNanD256 s
  | .minD32 => Sys2Proof.Machine.execMinD32 s
  | .minD64 => Sys2Proof.Machine.execMinD64 s
  | .minD128 => Sys2Proof.Machine.execMinD128 s
  | .minD256 => Sys2Proof.Machine.execMinD256 s
  | .maxD32 => Sys2Proof.Machine.execMaxD32 s
  | .maxD64 => Sys2Proof.Machine.execMaxD64 s
  | .maxD128 => Sys2Proof.Machine.execMaxD128 s
  | .maxD256 => Sys2Proof.Machine.execMaxD256 s

end Sys2Proof.Machine
end

