-- ==== Sys2Proof/Machine/Step.lean ====
section
/-! DEFINITION. One step of the block: it answers the oldest accepted command, or stays idle (20_memory.md R45, R48; 70_reset_and_hazards.md R260). Log 2. -/

namespace Sys2Proof.Machine

/-- One step. The command word is checked before the operands are read (60_exceptions.md R234). -/
def step (s : State) : Host.Outcome State Fault Refusal :=
  match s.queue with
  | [] => .next s.quiet
  | c :: _ =>
    match decode c.cmd with
    | .ok i => exec i s
    | .error _ => raiseFault .illegal s

/-- The state in which the command that is answered next has the word `w`: a host has sent it. Log 4. -/
def State.withFetchWord (s : State) (nbits w : Nat) : State := s.placeWord (tableWord nbits w)

end Sys2Proof.Machine
end

