-- ==== Sys2Proof/Config.lean ====
section
/-! DEFINITION. The two open parameters of 00_scope.md R9. Both are opaque: nothing can be proved of their values, and no value rule of the block depends on either. -/

namespace Sys2Proof

/-- The order in which a host stores a limb's bytes in its own memory (20_memory.md R43). DESIGN CHOICE: the spec lists no
orders, and the model has these two alone. Log 13. -/
inductive ByteOrder where
  | littleEndian
  | bigEndian
  deriving DecidableEq, Repr, Inhabited

/-- `LATENCY` (00_scope.md R9, 70_reset_and_hazards.md R266): a free value for each command, by the number of commands
answered before it. Machine/Port.lean adds one to it, since the rule asks for a positive number of cycles. Log 6. -/
opaque Config.latency : Nat → Nat

/-- `HOST_BYTE_ORDER` (00_scope.md R9, 20_memory.md R43), outside the block. Log 7. That it is one of the two
orders of `ByteOrder` is the model's choice, log 13. -/
opaque Config.hostByteOrder : ByteOrder

end Sys2Proof
end

