-- ==== Sys2Proof/Machine/Port.lean ====
section
/-! DEFINITION. The block at its command port: how it goes on after a fault (60_exceptions.md R236), what a host can do to it (accept, reset), and the open parameter LATENCY (70_reset_and_hazards.md R266). -/

namespace Sys2Proof.Machine

/-- The block's next state, fault or not: "The next command is accepted and answered as if the faulted command had
never been issued" (60_exceptions.md R236). -/
def State.serve (s : State) : State :=
  match step s with
  | .next s' => s'
  | .fault f => f.after
  | .refused _ => s

/-- What the response port shows in the next `n` steps. -/
def State.portTrace : Nat → State → List (Option Response)
  | 0, _ => []
  | n + 1, s => s.serve.response :: State.portTrace n s.serve

/-- The response to a command sent to the idle block after reset. -/
def responseTo (c : Command) : Option Response := (State.reset.accept c).serve.response

/-- Reset: the queue is emptied and no response is delivered, a command in flight included
(70_reset_and_hazards.md R260, R261). -/
def State.assertReset (_ : State) : State := State.reset

/-! ## Cycles

The model's own bookkeeping for LATENCY (00_scope.md R9, 70_reset_and_hazards.md R266). `step` does not read it. Log 6. -/

/-- The block with a count of the cycles before the oldest command is answered, and of the commands answered. -/
structure Clocked where
  core : State
  wait : Nat
  served : Nat
  deriving DecidableEq, Repr

/-- One cycle: the oldest command is answered when its wait is over. "Any positive number of cycles is allowed, and it
may differ between commands" (R266): a command accepted waits at least the cycle that answers it. -/
def Clocked.cycle (m : Clocked) : Clocked :=
  match m.core.queue, m.wait with
  | [], _ => { m with core := m.core.serve, wait := Config.latency m.served }
  | _ :: _, n + 1 => { m with core := m.core.quiet, wait := n }
  | _ :: _, 0 => ⟨m.core.serve, Config.latency (m.served + 1), m.served + 1⟩

/-- What can happen at the port. -/
inductive Event where
  | accept (c : Command)
  | cycle
  | reset
  deriving DecidableEq, Repr

/-- The block after an event. -/
def Clocked.event (m : Clocked) : Event → Clocked
  | .accept c => { m with core := m.core.accept c }
  | .cycle => m.cycle
  | .reset => { m with core := m.core.assertReset, wait := Config.latency m.served }

/-- The responses that an event delivers: only a cycle delivers one. -/
def Clocked.delivered (m : Clocked) : Event → List Response
  | .accept _ => []
  | .cycle => m.cycle.core.response.toList
  | .reset => []

/-- The block after some events. -/
def Clocked.run (m : Clocked) : List Event → Clocked
  | [] => m
  | e :: es => (m.event e).run es

/-- The responses that some events deliver, in order. -/
def Clocked.responses (m : Clocked) : List Event → List Response
  | [] => []
  | e :: es => m.delivered e ++ (m.event e).responses es

/-- The commands that some events accept, in order. -/
def acceptedBy : List Event → List Command
  | [] => []
  | .accept c :: es => c :: acceptedBy es
  | .cycle :: es => acceptedBy es
  | .reset :: es => acceptedBy es

/-! ## Host-side storage of a limb -/

/-- The bytes of a limb in a host's memory, lowest address first, in the host's byte order (20_memory.md R43), one of two
(log 13). -/
def limbToHostBytes (o : ByteOrder) (l : Limb) : List (BitVec 8) :=
  let le := (List.range 8).map fun i => l.extractLsb' (8 * i) 8
  match o with
  | .littleEndian => le
  | .bigEndian => le.reverse

/-- The limb that those bytes stand for. -/
def limbOfHostBytes (o : ByteOrder) (bs : List (BitVec 8)) : Limb :=
  let le := match o with
    | .littleEndian => bs
    | .bigEndian => bs.reverse
  BitVec.ofNat 64 (le.foldr (fun b n => b.toNat + 256 * n) 0)

end Sys2Proof.Machine
end

