-- ==== Sys2Proof/Safety.lean ====
section
/-! DEFINITION. The terms of the claims: what a safe state and a successful run are, and the spec's tables and formulas written a second time, in natural numbers and absolute bit positions, so that a claim compares the machine with the rule and not with itself. -/

namespace Sys2Proof.Safety

open Sys2Proof.Machine

/-! ## States after a command -/

/-- The state after an OK response with outputs `o`: `rest` is what was queued behind the command. -/
def okState (rest : List Command) (o : Outputs) : State := ⟨rest, some ⟨0, some o⟩⟩

/-- The state after a fault response: STATUS alone (60_exceptions.md R231). -/
def faultState (rest : List Command) (status : BitVec 2) : State := ⟨rest, some ⟨status, none⟩⟩

/-- R alone is written, every other output is 0 (10_state.md R24). -/
def onlyR (v : Nat) : Outputs := ⟨BitVec.ofNat 256 v, false, false, 0, 0, false⟩

/-- T alone is written, every other output is 0 (10_state.md R24). -/
def onlyT (b : Bool) : Outputs := ⟨0, b, false, 0, 0, false⟩

/-- A successful run of n steps: no step ends in a fault (60_exceptions.md R230). -/
def Successful (n : Nat) (s : State) : Prop := ∃ t, Sys2Proof.core.run n s = .next t

/-! ## The invariant -/

/-- What the rules say of the outputs of every OK response: DEXP is at most the largest biased exponent of any format
(10_state.md R24, 00_scope.md R8), DNC is set for Finite words only (R24), DEXP is 0 for the other classes and R for
Infinite (42_decode.md R161, R162), and a command that sets T writes nothing else (R24). -/
def OutputsOk (o : Outputs) : Prop :=
  o.dexp.toNat ≤ 3145727 ∧ (o.dnc = true → o.dcls = 0) ∧ (o.dcls ≠ 0 → o.dexp = 0) ∧
    (o.dcls = 1 → o.r = 0) ∧ (o.t = true → o = onlyT true)

/-- STATUS is OK with outputs, or ILLEGAL or DIVZERO with none; code 3 is "never produced" (10_state.md R24, R25). -/
def ResponseOk (r : Response) : Prop :=
  (r.status = 0 ∧ ∃ o, r.outputs = some o ∧ OutputsOk o) ∨ ((r.status = 1 ∨ r.status = 2) ∧ r.outputs = none)

/-- The invariant of the block: a response that is being delivered is one the rules allow. -/
def BlockInv (s : State) : Prop := ∀ r, s.response = some r → ResponseOk r

/-! ## Integer operands (30_encoding.md R66, R67) -/

/-- `X[W−1:0]` -/
def low (W : Nat) (x : Wide256) : Nat := x.toNat % 2 ^ W

/-- An operand that is the narrow one. -/
def narrowLow (W : Nat) (nw : NarrowWidth) (x : Wide256) : Nat :=
  match nw with
  | .full => low W x
  | .u8 => low 8 x
  | .u16 => low 16 x
  | .u32 => low 32 x

/-- A' -/
def aPrime (W : Nat) (nw : NarrowWidth) (ns : NarrowSide) (c : Command) : Nat :=
  if ns = .a then narrowLow W nw c.a else low W c.a

/-- B' -/
def bPrime (W : Nat) (nw : NarrowWidth) (ns : NarrowSide) (c : Command) : Nat :=
  if ns = .b then narrowLow W nw c.b else low W c.b

/-! ## Command words (30_encoding.md R60 to R65) -/

/-- `CMD = OPC<<8 | WC<<5 | NW<<3 | NS<<2 | RSV` -/
def cmdWord (opc wc nw ns rsv : Nat) : CmdWord :=
  BitVec.ofNat 16 (opc <<< 8 ||| wc <<< 5 ||| nw <<< 3 ||| ns <<< 2 ||| rsv)

/-- WC of a word width (R62). -/
def wordWc : WordWidth → Nat
  | .u32 => 0
  | .u64 => 1

/-- WC of a wide width (R62). -/
def wideWc : WideWidth → Nat
  | .u128 => 2
  | .u192 => 3
  | .u256 => 4

/-- WC of a decimal format (R62). -/
def decWc : DecFormat → Nat
  | .d32 => 0
  | .d64 => 1
  | .d128 => 2
  | .d256 => 4

/-- "NS = 1 is legal only with a non-zero NW" (R65). -/
def NarrowPairLegal (nw : NarrowWidth) (ns : NarrowSide) : Prop := ns = .a → nw ≠ .full

/-- The word row `i` of an operation with NW and NS is encoded as R60 and R61 say. -/
def EncodedWord (opc : Nat) (i : WordWidth → NarrowWidth → NarrowSide → Instr) : Prop :=
  ∀ W nw ns, NarrowPairLegal nw ns → decode (cmdWord opc (wordWc W) nw.code ns.code 0) = .ok (i W nw ns)

/-- The wide row `i` of an operation is encoded as R60 and R61 say. -/
def EncodedWide (opc : Nat) (i : WideWidth → Instr) : Prop :=
  ∀ W, decode (cmdWord opc (wideWc W) 0 0 0) = .ok (i W)

/-- The decimal row `i` of an operation is encoded as R60 and R61 say. -/
def EncodedDec (opc : Nat) (i : DecFormat → Instr) : Prop :=
  ∀ f, decode (cmdWord opc (decWc f) 0 0 0) = .ok (i f)

/-- R61: each operation code with its legal width codes. -/
def opcTable : List (Nat × List Nat) :=
  [(0x01, [0, 1, 2, 3, 4]), (0x02, [0, 1, 2, 3, 4]), (0x03, [0, 1, 2, 3, 4]), (0x04, [0, 1]), (0x05, [0, 1]),
    (0x06, [0, 1, 2, 3, 4]), (0x07, [2, 3, 4])] ++
  ((List.range 8).map fun n => (0x20 + n, [0, 1, 2, 4])) ++ ((List.range 10).map fun n => (0x30 + n, [0, 1, 2, 4]))

/-- R65: where a non-zero NW is legal. -/
def narrowOpcs : List Nat := [0x01, 0x02, 0x03, 0x04, 0x05]

/-- R75, in the word's bits: OPC and WC are in the table, NW and NS are as R65 allows, RSV is 00. -/
def LegalWord (w : CmdWord) : Prop :=
  (∃ wcs, ((w.extractLsb' 8 8).toNat, wcs) ∈ opcTable ∧ (w.extractLsb' 5 3).toNat ∈ wcs) ∧
  (w.extractLsb' 3 2 ≠ 0 →
    (w.extractLsb' 8 8).toNat ∈ narrowOpcs ∧ (w.extractLsb' 5 3).toNat ≤ 1) ∧
  (w.extractLsb' 2 1 ≠ 0 → w.extractLsb' 3 2 ≠ 0) ∧
  w.extractLsb' 0 2 = 0

/-! ## Limb forms (41_wide.md R130, R131, R134) -/

/-- The limb carry chain of R130, limb 0 first. -/
def addLimbs : List Limb → List Limb → Nat → List Limb
  | a :: as, b :: bs, c =>
    BitVec.ofNat 64 ((a.toNat + b.toNat + c) % 2 ^ 64) :: addLimbs as bs ((a.toNat + b.toNat + c) / 2 ^ 64)
  | _, _, _ => []

/-- The limb borrow chain of R131, limb 0 first, in integers. -/
def subLimbs : List Limb → List Limb → Int → List Limb
  | a :: as, b :: bs, w =>
    let d : Int := a.toNat - b.toNat - w
    BitVec.ofInt 64 d :: subLimbs as bs (if d < 0 then 1 else 0)
  | _, _, _ => []

/-- Comparison "from the most significant limb down" (R134): the lists have the most significant limb first. -/
def lessLimbs : List Limb → List Limb → Bool
  | a :: as, b :: bs => if a = b then lessLimbs as bs else decide (a.toNat < b.toNat)
  | _, _ => false

/-- The limbs of the low W bits of an operand, limb 0 first (00_scope.md R13). -/
def limbsOf (W : WideWidth) (x : Wide256) : List Limb := (List.range (W.width / 64)).map fun i => x.extractLsb' (64 * i) 64

/-! ## Decimal words: the numbers of 00_scope.md R8 and 30_encoding.md R86 -/

/-- One row of the tables: `top5`, `kind`, `tag`, `e1` and `e2` are the lowest bits of top5, of the NaN kind bit, of the
form 2 tag, and of the exponent in form 1 and form 2. -/
structure Row where
  k : Nat
  p : Nat
  g : Nat
  t : Nat
  ebits : Nat
  emax : Nat
  emin : Int
  bias : Nat
  ebmax : Nat
  cmax : Nat
  top5 : Nat
  kind : Nat
  tag : Nat
  e1 : Nat
  e2 : Nat
  deriving DecidableEq, Repr

/-- R8 and R86. -/
def row : DecFormat → Row
  | .d32 => ⟨32, 7, 11, 20, 8, 96, -95, 101, 191, 0x98967F, 26, 25, 29, 23, 21⟩
  | .d64 => ⟨64, 16, 13, 50, 10, 384, -383, 398, 767, 0x2386F26FC0FFFF, 58, 57, 61, 53, 51⟩
  | .d128 => ⟨128, 34, 17, 110, 14, 6144, -6143, 6176, 12287, 0x1ED09BEAD87C0378D8E63FFFFFFFF, 122, 121, 125, 113, 111⟩
  | .d256 => ⟨256, 70, 25, 230, 22, 1572864, -1572863, 1572932, 3145727,
      0x172EBAD6DDC73C86D67C5FAA71C245689C10795023FFFFFFFFFFFFFFFFF, 250, 249, 253, 233, 231⟩

/-- X = A_k as a number (30_encoding.md R66). -/
def wordX (f : DecFormat) (c : Command) : Nat := c.a.toNat % 2 ^ (row f).k

/-- S (R81). -/
def signOf (f : DecFormat) (x : Nat) : Bool := x / 2 ^ ((row f).k - 1) % 2 = 1

/-- top5 (R82). -/
def top5Of (f : DecFormat) (x : Nat) : Nat := x / 2 ^ (row f).top5 % 32

/-- The NaN kind bit (R83). -/
def kindOf (f : DecFormat) (x : Nat) : Nat := x / 2 ^ (row f).kind % 2

/-- The NaN payload (R83). -/
def payloadOf (f : DecFormat) (x : Nat) : Nat := x % 2 ^ (row f).kind

/-- Finite: neither NaN nor Infinite (R82). -/
def FiniteWord (f : DecFormat) (x : Nat) : Prop := top5Of f x < 30

/-- Form 2 (R82, R85). -/
def Form2 (f : DecFormat) (x : Nat) : Prop := x / 2 ^ (row f).tag % 4 = 3

/-- E of a Finite word (R84, R85). -/
def expOf (f : DecFormat) (x : Nat) : Nat :=
  if x / 2 ^ (row f).tag % 4 = 3 then x / 2 ^ (row f).e2 % 2 ^ (row f).ebits
  else x / 2 ^ (row f).e1 % 2 ^ (row f).ebits

/-- C of a Finite word (R84, R85). -/
def coeffOf (f : DecFormat) (x : Nat) : Nat :=
  if x / 2 ^ (row f).tag % 4 = 3 then 2 ^ (row f).e1 + x % 2 ^ (row f).e2 else x % 2 ^ (row f).e1

/-- Zero, "including non-canonical zero" (43_classify.md R180). -/
def ZeroWord (f : DecFormat) (x : Nat) : Prop :=
  FiniteWord f x ∧ (coeffOf f x = 0 ∨ (row f).cmax < coeffOf f x)

/-- Normal (43_classify.md R186): Finite, not zero, and `C * 10^E >= 10^(p-1)`. -/
def NormalWord (f : DecFormat) (x : Nat) : Prop :=
  FiniteWord f x ∧ ¬ ZeroWord f x ∧ 10 ^ ((row f).p - 1) ≤ coeffOf f x * 10 ^ expOf f x

/-- The seven predicates (43_classify.md R180 to R186). -/
def predicates : List (DecFormat → Instr) :=
  [.isZeroDec, .isNanDec, .isQNanDec, .isSNanDec, .isInfDec, .isFiniteDec, .isNormalDec]

/-! ## Constants: the table of 44_constants.md R211 -/

/-- A value from its limbs, the most significant first (20_memory.md R42). -/
def newWord : List Nat → Nat
  | [] => 0
  | l :: ls => l * 2 ^ (64 * ls.length) + newWord ls

/-- One row of R211. -/
def byFormat (w32 w64 : Nat) (w128 w256 : List Nat) : DecFormat → Nat
  | .d32 => w32
  | .d64 => w64
  | .d128 => newWord w128
  | .d256 => newWord w256

/-- R211: operation code, constructor, words. -/
def constants : List (Nat × (DecFormat → Instr) × (DecFormat → Nat)) :=
  [(0x30, .zeroDec, byFormat 0x00000000 0x0000000000000000 [0, 0] [0, 0, 0, 0]),
   (0x31, .mZeroDec, byFormat 0x80000000 0x8000000000000000 [0x8000000000000000, 0] [0x8000000000000000, 0, 0, 0]),
   (0x32, .infDec, byFormat 0x78000000 0x7800000000000000 [0x7800000000000000, 0] [0x7800000000000000, 0, 0, 0]),
   (0x33, .mInfDec, byFormat 0xF8000000 0xF800000000000000 [0xF800000000000000, 0] [0xF800000000000000, 0, 0, 0]),
   (0x34, .qNanDec, byFormat 0x7C000000 0x7C00000000000000 [0x7C00000000000000, 0] [0x7C00000000000000, 0, 0, 0]),
   (0x35, .mQNanDec, byFormat 0xFC000000 0xFC00000000000000 [0xFC00000000000000, 0] [0xFC00000000000000, 0, 0, 0]),
   (0x36, .sNanDec, byFormat 0x7E000000 0x7E00000000000000 [0x7E00000000000000, 0] [0x7E00000000000000, 0, 0, 0]),
   (0x37, .mSNanDec, byFormat 0xFE000000 0xFE00000000000000 [0xFE00000000000000, 0] [0xFE00000000000000, 0, 0, 0]),
   (0x38, .minDec, byFormat 0xF7F8967F 0xF7FB86F26FC0FFFF [0xDFFFED09BEAD87C0, 0x378D8E63FFFFFFFF]
      [0xDFFFFF72EBAD6DDC, 0x73C86D67C5FAA71C, 0x245689C10795023F, 0xFFFFFFFFFFFFFFFF]),
   (0x39, .maxDec, byFormat 0x77F8967F 0x77FB86F26FC0FFFF [0x5FFFED09BEAD87C0, 0x378D8E63FFFFFFFF]
      [0x5FFFFF72EBAD6DDC, 0x73C86D67C5FAA71C, 0x245689C10795023F, 0xFFFFFFFFFFFFFFFF])]

end Sys2Proof.Safety
end

