-- ==== Sys2Proof/Certificates/Slice0/Obligations.lean ====
section
/-! DEFINITION. The statements for the provers. `⟨c :: rest, p⟩` is any state whose oldest accepted command is `c`. A state has two fields, so an equation for the whole next state is also the frame: the younger commands stay as they are, and each output a rule does not write is 0 (10_state.md R24). Selection, promotion and placement of operands and the codes of the command word are the spec's own decisions D2 to D6; the bit positions of a decimal word are its decision D13. -/

open Sys2Proof Sys2Proof.Machine Sys2Proof.Safety

/-! ## Command words -/

/-- Decoding gives back every well-formed command from its word, with NW and NS at every value (D2, D3). -/
def Obligations.DecodeEncodeRoundTrip : Prop :=
  ∀ i : Instr, i.wellFormed = true → decode (encode i) = .ok i

/-- Every word that decodes is the word of the well-formed command it decodes to: no bit of a word is ignored. -/
def Obligations.EncodeDecodeRoundTrip : Prop :=
  ∀ (w : CmdWord) (i : Instr), decode w = .ok i → i.wellFormed = true ∧ encode i = w

/-- R75, R76: a word decodes exactly when OPC and WC are in the table of R61, NW and NS are as R65 allows and RSV
is 00. The rules are the spec's decisions D10 and D34. -/
def Obligations.LegalWordsAreTheDecodedOnes : Prop :=
  ∀ w : CmdWord, (∃ i, decode w = .ok i) ↔ LegalWord w

/-- Words written out from R60 and R61, one for each family and narrow form, decode to their commands. -/
def Obligations.SampleWordsDecode : Prop :=
  decode 0b00000001_001_01_1_00#16 = .ok (.addU64 .u8 .a) ∧
  decode 0b00000100_000_11_0_00#16 = .ok (.divU32 .u32 .b) ∧
  decode 0b00000101_001_10_0_00#16 = .ok (.xorU64 .u16 .b) ∧
  decode 0b00000110_001_00_0_00#16 = .ok .eqU64 ∧
  decode 0b00000111_011_00_0_00#16 = .ok .ultU192 ∧
  decode 0b00100000_100_00_0_00#16 = .ok .decodeD256 ∧
  decode 0b00100111_010_00_0_00#16 = .ok .isNormalD128 ∧
  decode 0b00111000_001_00_0_00#16 = .ok .minD64

/-! ## Word integer commands (40_word.md) -/

/-- R100. -/
def Obligations.WordAddIsModular : Prop :=
  (∀ W nw ns c rest p, exec (.addWord W nw ns) ⟨c :: rest, p⟩ = .next (okState rest
    (onlyR ((aPrime W.width nw ns c + bPrime W.width nw ns c) % 2 ^ W.width)))) ∧
  EncodedWord 0x01 .addWord

/-- R101. -/
def Obligations.WordSubIsModular : Prop :=
  (∀ W nw ns c rest p, exec (.subWord W nw ns) ⟨c :: rest, p⟩ = .next (okState rest
    (onlyR ((aPrime W.width nw ns c + 2 ^ W.width - bPrime W.width nw ns c) % 2 ^ W.width)))) ∧
  EncodedWord 0x02 .subWord

/-- R102. -/
def Obligations.WordMulIsLowProduct : Prop :=
  (∀ W nw ns c rest p, exec (.mulWord W nw ns) ⟨c :: rest, p⟩ = .next (okState rest
    (onlyR ((aPrime W.width nw ns c * bPrime W.width nw ns c) % 2 ^ W.width)))) ∧
  EncodedWord 0x03 .mulWord

/-- R103: the floor of the quotient, or DIVZERO. The zero check is made on B' after promotion. That a zero divisor faults
and does not saturate is the spec's decision D9 (R104), the STATUS code 2 and the outputs without a value its decision D8
(log 10); the form of the fault outcome is the model's (log 1). -/
def Obligations.WordDivIsFloorOrFault : Prop :=
  (∀ W nw ns c rest p, bPrime W.width nw ns c ≠ 0 →
    exec (.divWord W nw ns) ⟨c :: rest, p⟩ = .next (okState rest
      (onlyR (aPrime W.width nw ns c / bPrime W.width nw ns c)))) ∧
  (∀ W nw ns c rest p, bPrime W.width nw ns c = 0 →
    exec (.divWord W nw ns) ⟨c :: rest, p⟩ = .fault (.divZero (faultState rest 2))) ∧
  EncodedWord 0x04 .divWord

/-- R105. -/
def Obligations.WordXorIsBitwise : Prop :=
  (∀ W nw ns c rest p, exec (.xorWord W nw ns) ⟨c :: rest, p⟩ = .next (okState rest
    (onlyR (aPrime W.width nw ns c ^^^ bPrime W.width nw ns c)))) ∧
  EncodedWord 0x05 .xorWord

/-- R106: T alone is written, and no input bit above W takes part. -/
def Obligations.WordEqComparesMagnitudes : Prop :=
  (∀ W c rest p, exec (.eqWord W) ⟨c :: rest, p⟩ = .next (okState rest
    (onlyT (decide (low W.width c.a = low W.width c.b))))) ∧
  ∀ W, decode (cmdWord 0x06 (wordWc W) 0 0 0) = .ok (.eqWord W)

/-- 95_test_vectors.md V7: a narrow operand on either side of ADD, MUL and XOR gives the same answer. -/
def Obligations.NarrowSidesCommute : Prop :=
  ∀ W nw w (a b : Wide256) rest p,
    exec (.addWord W nw .b) ⟨⟨w, a, b⟩ :: rest, p⟩ = exec (.addWord W nw .a) ⟨⟨w, b, a⟩ :: rest, p⟩ ∧
    exec (.mulWord W nw .b) ⟨⟨w, a, b⟩ :: rest, p⟩ = exec (.mulWord W nw .a) ⟨⟨w, b, a⟩ :: rest, p⟩ ∧
    exec (.xorWord W nw .b) ⟨⟨w, a, b⟩ :: rest, p⟩ = exec (.xorWord W nw .a) ⟨⟨w, b, a⟩ :: rest, p⟩

/-- R65 (D6): "With W = 32 and NW = 11 the narrow width equals W; this is legal and acts the same as NW = 00". -/
def Obligations.FullNarrowWidthActsAsNone : Prop :=
  ∀ ns s,
    exec (.addU32 .u32 ns) s = exec (.addU32 .full .b) s ∧ exec (.subU32 .u32 ns) s = exec (.subU32 .full .b) s ∧
    exec (.mulU32 .u32 ns) s = exec (.mulU32 .full .b) s ∧ exec (.divU32 .u32 ns) s = exec (.divU32 .full .b) s ∧
    exec (.xorU32 .u32 ns) s = exec (.xorU32 .full .b) s

/-! ## Wide integer commands (41_wide.md) -/

/-- R130, first form (D11). -/
def Obligations.WideAddIsModular : Prop :=
  (∀ W c rest p, exec (.addWide W) ⟨c :: rest, p⟩ = .next (okState rest
    (onlyR ((low W.width c.a + low W.width c.b) % 2 ^ W.width)))) ∧ EncodedWide 0x01 .addWide

/-- R131, first form (D11). -/
def Obligations.WideSubIsModular : Prop :=
  (∀ W c rest p, exec (.subWide W) ⟨c :: rest, p⟩ = .next (okState rest
    (onlyR ((low W.width c.a + 2 ^ W.width - low W.width c.b) % 2 ^ W.width)))) ∧ EncodedWide 0x02 .subWide

/-- R132 (D11). -/
def Obligations.WideMulIsLowProduct : Prop :=
  (∀ W c rest p, exec (.mulWide W) ⟨c :: rest, p⟩ = .next (okState rest
    (onlyR ((low W.width c.a * low W.width c.b) % 2 ^ W.width)))) ∧ EncodedWide 0x03 .mulWide

/-- R133: T is 1 iff all limbs below W/64 are equal. -/
def Obligations.WideEqIsLimbwise : Prop :=
  (∀ W c rest p, ∃ b, exec (.eqWide W) ⟨c :: rest, p⟩ = .next (okState rest (onlyT b)) ∧
    (b = true ↔ ∀ i < W.width / 64, c.a.extractLsb' (64 * i) 64 = c.b.extractLsb' (64 * i) 64)) ∧
  EncodedWide 0x06 .eqWide

/-- R134 (D12). -/
def Obligations.WideUltComparesMagnitudes : Prop :=
  (∀ W c rest p, exec (.ultWide W) ⟨c :: rest, p⟩ = .next (okState rest
    (onlyT (decide (low W.width c.a < low W.width c.b))))) ∧ EncodedWide 0x07 .ultWide

/-- R130, second form (D11): the result is the limb carry chain with the final carry discarded. -/
def Obligations.WideAddIsLimbCarryChain : Prop :=
  ∀ W c rest p, exec (.addWide W) ⟨c :: rest, p⟩ = .next (okState rest
    (onlyR (limbsValue (addLimbs (limbsOf W c.a) (limbsOf W c.b) 0))))

/-- R131, second form (D11): the result is the limb borrow chain with the final borrow discarded. -/
def Obligations.WideSubIsLimbBorrowChain : Prop :=
  ∀ W c rest p, exec (.subWide W) ⟨c :: rest, p⟩ = .next (okState rest
    (onlyR (limbsValue (subLimbs (limbsOf W c.a) (limbsOf W c.b) 0))))

/-- R134 (D12): "compare from the most significant limb down". -/
def Obligations.WideUltIsLimbsFromTheTop : Prop :=
  ∀ W c rest p, exec (.ultWide W) ⟨c :: rest, p⟩ = .next (okState rest
    (onlyT (lessLimbs (limbsOf W c.a).reverse (limbsOf W c.b).reverse)))

/-- 20_memory.md R41, R44 and 41_wide.md R135 (D38): limb 0 is the least significant, an operand built from four limbs has
them as its limbs, and it is its upper half above its lower half. -/
def Obligations.LimbZeroIsLeastSignificant : Prop :=
  ∀ a0 a1 a2 a3 : Limb,
    (ofLimbs [a0, a1, a2, a3]).toNat = a0.toNat + a1.toNat * 2 ^ 64 + a2.toNat * 2 ^ 128 + a3.toNat * 2 ^ 192 ∧
    limb (ofLimbs [a0, a1, a2, a3]) 0 = a0 ∧ limb (ofLimbs [a0, a1, a2, a3]) 1 = a1 ∧
    limb (ofLimbs [a0, a1, a2, a3]) 2 = a2 ∧ limb (ofLimbs [a0, a1, a2, a3]) 3 = a3 ∧
    ofLimbs [a0, a1, a2, a3] = (a3 ++ a2) ++ (a1 ++ a0)

/-! ## The decoder (42_decode.md) -/

/-- 00_scope.md R8 (D14): the formulas give the table. -/
def Obligations.FormatFormulasGiveTheTable : Prop :=
  ∀ f : DecFormat,
    (f.width, f.precision, f.combBits, f.trailBits, f.expBits) =
      ((row f).k, (row f).p, (row f).g, (row f).t, (row f).ebits) ∧
    (f.emax, f.emin, f.bias, f.maxBiasedExp, f.maxCoeff) =
      ((row f).emax, (row f).emin, (row f).bias, (row f).ebmax, (row f).cmax)

/-- R160, R162 (D13, D16): a NaN word. -/
def Obligations.DecodeOfNan : Prop :=
  (∀ f c rest p, top5Of f (wordX f c) = 31 →
    exec (.decodeDec f) ⟨c :: rest, p⟩ = .next (okState rest
      ⟨BitVec.ofNat 256 (payloadOf f (wordX f c)), false, signOf f (wordX f c),
        if kindOf f (wordX f c) = 1 then 3 else 2, 0, false⟩)) ∧
  EncodedDec 0x20 .decodeDec

/-- R160, R161 (D13, D16): an Infinite word, whose low bits are never read back. -/
def Obligations.DecodeOfInfinite : Prop :=
  ∀ f c rest p, top5Of f (wordX f c) = 30 →
    exec (.decodeDec f) ⟨c :: rest, p⟩ = .next (okState rest ⟨0, false, signOf f (wordX f c), 1, 0, false⟩)

/-- R160, R163 (D13, D15): a Finite word in either form, with its raw coefficient "even if C > Cmax". -/
def Obligations.DecodeOfFinite : Prop :=
  ∀ f c rest p, FiniteWord f (wordX f c) →
    exec (.decodeDec f) ⟨c :: rest, p⟩ = .next (okState rest
      ⟨BitVec.ofNat 256 (coeffOf f (wordX f c)), false, signOf f (wordX f c), 0,
        BitVec.ofNat 32 (expOf f (wordX f c)), decide ((row f).cmax < coeffOf f (wordX f c))⟩)

/-- R163: on every word DEXP is in [0, Ebmax(k)], and R is a coefficient below 2^(t+4). -/
def Obligations.DecodedFieldsInRange : Prop :=
  ∀ f c rest p, ∃ o, exec (.decodeDec f) ⟨c :: rest, p⟩ = .next (okState rest o) ∧
    o.dexp.toNat ≤ (row f).ebmax ∧ (o.dcls = 0 → o.r.toNat < 2 ^ ((row f).t + 4))

/-- R164: DNC = 1 implies that ISZERO of the same word is 1. -/
def Obligations.NonCanonicalReadsAsZero : Prop :=
  ∀ f c rest p, ∃ o z, exec (.decodeDec f) ⟨c :: rest, p⟩ = .next (okState rest o) ∧
    exec (.isZeroDec f) ⟨c :: rest, p⟩ = .next (okState rest (onlyT z)) ∧ (o.dnc = true → z = true)

/-- 30_encoding.md R85 (D13): every Finite form-2 word of d128 and d256 is non-canonical. -/
def Obligations.WideForm2IsNonCanonical : Prop :=
  ∀ f c rest p, f = .d128 ∨ f = .d256 → FiniteWord f (wordX f c) → Form2 f (wordX f c) →
    (∃ o, exec (.decodeDec f) ⟨c :: rest, p⟩ = .next (okState rest o) ∧ o.dnc = true) ∧
    exec (.isZeroDec f) ⟨c :: rest, p⟩ = .next (okState rest (onlyT true))

/-! ## The predicates (43_classify.md) -/

/-- R180, through the decoded view as DECODE reports it: T is 1 iff the class is Finite and the coefficient is 0 or exceeds
Cmax(k) = 10^p − 1. That DCLS reports Finite as 0 is the spec's decision D17, and that R is the raw coefficient its decision
D15 (log 10). -/
def Obligations.IsZeroFollowsTheDecodedView : Prop :=
  (∀ f c rest p, ∃ o b, exec (.decodeDec f) ⟨c :: rest, p⟩ = .next (okState rest o) ∧
    exec (.isZeroDec f) ⟨c :: rest, p⟩ = .next (okState rest (onlyT b)) ∧
    (b = true ↔ o.dcls = 0 ∧ (o.r = 0 ∨ 10 ^ (row f).p - 1 < o.r.toNat))) ∧ EncodedDec 0x21 .isZeroDec

/-- R180 in the word's bits: C and E lie where the spec's decision D13 puts them. -/
def Obligations.IsZeroCountsNonCanonical : Prop :=
  (∀ f c rest p, ∃ b, exec (.isZeroDec f) ⟨c :: rest, p⟩ = .next (okState rest (onlyT b)) ∧
    (b = true ↔ ZeroWord f (wordX f c))) ∧ EncodedDec 0x21 .isZeroDec

/-- R181. -/
def Obligations.IsNanReadsTop5 : Prop :=
  (∀ f c rest p, ∃ b, exec (.isNanDec f) ⟨c :: rest, p⟩ = .next (okState rest (onlyT b)) ∧
    (b = true ↔ top5Of f (wordX f c) = 31)) ∧ EncodedDec 0x22 .isNanDec

/-- R182. -/
def Obligations.IsQNanReadsKindBit : Prop :=
  (∀ f c rest p, ∃ b, exec (.isQNanDec f) ⟨c :: rest, p⟩ = .next (okState rest (onlyT b)) ∧
    (b = true ↔ top5Of f (wordX f c) = 31 ∧ kindOf f (wordX f c) = 0)) ∧ EncodedDec 0x23 .isQNanDec

/-- R183. -/
def Obligations.IsSNanReadsKindBit : Prop :=
  (∀ f c rest p, ∃ b, exec (.isSNanDec f) ⟨c :: rest, p⟩ = .next (okState rest (onlyT b)) ∧
    (b = true ↔ top5Of f (wordX f c) = 31 ∧ kindOf f (wordX f c) = 1)) ∧ EncodedDec 0x24 .isSNanDec

/-- R184. -/
def Obligations.IsInfReadsTop5 : Prop :=
  (∀ f c rest p, ∃ b, exec (.isInfDec f) ⟨c :: rest, p⟩ = .next (okState rest (onlyT b)) ∧
    (b = true ↔ top5Of f (wordX f c) = 30)) ∧ EncodedDec 0x25 .isInfDec

/-- R185 (D19): zeros and non-canonical words included. -/
def Obligations.IsFiniteIsTheFiniteClass : Prop :=
  (∀ f c rest p, ∃ b, exec (.isFiniteDec f) ⟨c :: rest, p⟩ = .next (okState rest (onlyT b)) ∧
    (b = true ↔ FiniteWord f (wordX f c))) ∧ EncodedDec 0x26 .isFiniteDec

/-- R186, first form (D18): the model counts digits (log 11), the rule compares `C * 10^E` with `10^(p-1)`. -/
def Obligations.IsNormalComparesPowers : Prop :=
  (∀ f c rest p, ∃ b, exec (.isNormalDec f) ⟨c :: rest, p⟩ = .next (okState rest (onlyT b)) ∧
    (b = true ↔ NormalWord f (wordX f c))) ∧ EncodedDec 0x27 .isNormalDec

/-- R186 (D18): T is 1 iff the word is canonical, not zero, and its magnitude `C·10^(E−bias)` is at least `10^emin`. -/
def Obligations.NormalMeansMagnitudeAtLeastTenToEmin : Prop :=
  ∀ f c rest p, ∃ b, exec (.isNormalDec f) ⟨c :: rest, p⟩ = .next (okState rest (onlyT b)) ∧
    (b = true ↔ FiniteWord f (wordX f c) ∧ ¬ ZeroWord f (wordX f c) ∧
      (10 : ℚ) ^ (row f).emin ≤ (coeffOf f (wordX f c) : ℚ) * 10 ^ ((expOf f (wordX f c) : ℤ) - (row f).bias))

/-- R179: each predicate answers OK on every word, and its T is the same for two words that differ in the sign alone, for
two NaNs of one kind, and for two infinities. Which bits make a NaN, its kind and an infinity is the spec's decision D13
(log 9), what ISNORMAL and ISFINITE test its decisions D18 (log 9) and D19 (log 10). -/
def Obligations.PredicatesIgnoreSignAndPayload : Prop :=
  ∀ q ∈ predicates, ∀ f c d rest p rest' p',
    ∃ b b', exec (q f) ⟨c :: rest, p⟩ = .next (okState rest (onlyT b)) ∧
      exec (q f) ⟨d :: rest', p'⟩ = .next (okState rest' (onlyT b')) ∧
      ((wordX f c % 2 ^ ((row f).k - 1) = wordX f d % 2 ^ ((row f).k - 1) ∨
        (top5Of f (wordX f c) = 31 ∧ top5Of f (wordX f d) = 31 ∧ kindOf f (wordX f c) = kindOf f (wordX f d)) ∨
        (top5Of f (wordX f c) = 30 ∧ top5Of f (wordX f d) = 30)) → b = b')

/-- R187: for every word exactly one of zero, non-zero finite, infinite and NaN holds; ISQNAN and ISSNAN split ISNAN, and
ISNORMAL implies Finite and not zero. What ISFINITE and ISNORMAL test is the spec's decisions D19 (log 10) and D18
(log 9). -/
def Obligations.ClassesPartitionTheWords : Prop :=
  ∀ f c rest p, ∃ zero nan qnan snan inf finite normal : Bool,
    exec (.isZeroDec f) ⟨c :: rest, p⟩ = .next (okState rest (onlyT zero)) ∧
    exec (.isNanDec f) ⟨c :: rest, p⟩ = .next (okState rest (onlyT nan)) ∧
    exec (.isQNanDec f) ⟨c :: rest, p⟩ = .next (okState rest (onlyT qnan)) ∧
    exec (.isSNanDec f) ⟨c :: rest, p⟩ = .next (okState rest (onlyT snan)) ∧
    exec (.isInfDec f) ⟨c :: rest, p⟩ = .next (okState rest (onlyT inf)) ∧
    exec (.isFiniteDec f) ⟨c :: rest, p⟩ = .next (okState rest (onlyT finite)) ∧
    exec (.isNormalDec f) ⟨c :: rest, p⟩ = .next (okState rest (onlyT normal)) ∧
    [zero, finite && !zero, inf, nan].count true = 1 ∧ nan = (qnan || snan) ∧
    (qnan && snan) = false ∧
    (normal = true → finite = true ∧ zero = false)

/-! ## The constructors (44_constants.md) -/

/-- R199 to R209 and the table of R211 (D20 to D22): each constructor writes its constant whatever the operands hold. -/
def Obligations.ConstructorsGiveTheTable : Prop :=
  ∀ e ∈ constants, EncodedDec e.1 e.2.1 ∧
    ∀ f c rest p, exec (e.2.1 f) ⟨c :: rest, p⟩ = .next (okState rest (onlyR (e.2.2 f)))

/-- R188: ISNAN of a constructor's result is 1 for QNAN, MQNAN, SNAN and MSNAN and 0 for the other six. -/
def Obligations.ConstructorsClassifyAsTheSourceTests : Prop :=
  ∀ f c rest p, ∀ e ∈
    ([(.zeroDec, false), (.mZeroDec, false), (.infDec, false), (.mInfDec, false), (.minDec, false), (.maxDec, false),
      (.qNanDec, true), (.mQNanDec, true), (.sNanDec, true), (.mSNanDec, true)] : List ((DecFormat → Instr) × Bool)),
    ∃ v, exec (e.1 f) ⟨c :: rest, p⟩ = .next (okState rest (onlyR v)) ∧
      ∀ d : Command, d.a = BitVec.ofNat 256 v →
        exec (.isNanDec f) ⟨d :: rest, p⟩ = .next (okState rest (onlyT e.2))

/-- R208, R209 (D22): DECODE of MAX and of MIN gives Cmax and Ebmax, canonical, with the sign of each. -/
def Obligations.MaxAndMinDecodeToTheLargestMagnitude : Prop :=
  ∀ f c rest p, ∀ e ∈ ([(.maxDec, false), (.minDec, true)] : List ((DecFormat → Instr) × Bool)),
    ∃ v, exec (e.1 f) ⟨c :: rest, p⟩ = .next (okState rest (onlyR v)) ∧
      ∀ d : Command, d.a = BitVec.ofNat 256 v →
        exec (.decodeDec f) ⟨d :: rest, p⟩ = .next (okState rest
          ⟨BitVec.ofNat 256 (row f).cmax, false, e.2, 0, BitVec.ofNat 32 (row f).ebmax, false⟩)

/-! ## The machine -/

/-- A step runs the command that the oldest command word decodes to, at that state. A step adds nothing around `exec`:
the command leaves the queue inside it. That a step is one command is the model's (log 2). -/
def Obligations.StepRunsTheDecodedCommand : Prop :=
  ∀ c rest p i, decode c.cmd = .ok i → step ⟨c :: rest, p⟩ = exec i ⟨c :: rest, p⟩

/-- R232, R234 (D10): an illegal command word is ILLEGAL whatever the operands are, even for a zero divisor. The form of the
fault outcome is the model's (log 1). -/
def Obligations.IllegalWordFaultsWhateverTheOperands : Prop :=
  ∀ w (a b : Wide256) rest p, ¬ LegalWord w →
    step ⟨⟨w, a, b⟩ :: rest, p⟩ = .fault (.illegal (faultState rest 1))

/-- R235, R107: every command but DIV answers OK on every operand value. -/
def Obligations.OnlyDivideCanFault : Prop :=
  ∀ i c rest p, (∀ W nw ns, i ≠ .divWord W nw ns) →
    ∃ o, exec i ⟨c :: rest, p⟩ = .next (okState rest o)

/-- R230, R233, R235 (D8 to D10): a step faults exactly for an illegal word and for a DIV with a promoted divisor of 0, and the
model never refuses a step. -/
def Obligations.StepFaultsExactlyWhenTheRulesSay : Prop :=
  ∀ s, (∀ r, step s ≠ .refused r) ∧
    ((∃ k, step s = .fault (.illegal k)) ↔ ∃ c rest, s.queue = c :: rest ∧ ¬ LegalWord c.cmd) ∧
    ((∃ k, step s = .fault (.divZero k)) ↔ ∃ c rest W nw ns, s.queue = c :: rest ∧
      decode c.cmd = .ok (.divWord W nw ns) ∧ bPrime W.width nw ns c = 0)

/-- R236, R231: after a fault the block is as if the command had never been issued: what it answers next is what it would
answer from a state that never held the command. The carried state is the model's (log 1). -/
def Obligations.FaultLeavesNothingBehind : Prop :=
  ∀ c rest p f, step ⟨c :: rest, p⟩ = .fault f →
    f.after.queue = rest ∧ (∃ code, f.after.response = some ⟨code, none⟩ ∧ code ≠ 0) ∧
    step f.after = step ⟨rest, none⟩

/-- R260: the idle block stays idle, and shows no response. That a step of the idle block is a step is the model's (log 2). -/
def Obligations.IdleBlockStaysIdle : Prop :=
  ∀ p, step ⟨[], p⟩ = .next ⟨[], none⟩

/-- R260, R262 (D28): after reset nothing is accepted and unanswered, there is no response, and the invariant holds. -/
def Obligations.ResetIsIdleAndAllowed : Prop :=
  State.reset.queue = [] ∧ State.reset.response = none ∧ BlockInv State.reset

/-- R24, R25, R161, R162 (D7, D8, D16): from any state, a response that a step delivers is one the rules allow, in a next state and
in the state that a fault carries; STATUS 3 is never produced. -/
def Obligations.StepKeepsTheResponseInvariant : Prop :=
  (∀ s s', step s = .next s' → BlockInv s') ∧ ∀ s f, step s = .fault f → BlockInv f.after

/-- R20, R48 (D1, D24): a response depends on its own command alone: not on the port, not on the commands queued behind it. -/
def Obligations.ResponseDependsOnItsCommandAlone : Prop :=
  ∀ c rest p rest' p', (State.serve ⟨c :: rest, p⟩).response = (State.serve ⟨c :: rest', p'⟩).response ∧
    (State.serve ⟨c :: rest, p⟩).queue = rest

/-- R66 (D5): two commands of one word whose operands agree on the low W bits, W the width of the word, get one response. -/
def Obligations.BitsAboveTheWidthAreIgnored : Prop :=
  ∀ w (a b a' b' : Wide256) rest p, ∀ W ∈ [32, 64, 128, 192, 256],
    (w.extractLsb' 5 3).toNat = [32, 64, 128, 192, 256].idxOf W →
    low W a = low W a' → low W b = low W b' →
    State.serve ⟨⟨w, a, b⟩ :: rest, p⟩ = State.serve ⟨⟨w, a', b'⟩ :: rest, p⟩

/-- R66 (D5): decimal commands do not read B, and constructors read neither operand. -/
def Obligations.UnreadOperandsDoNotMatter : Prop :=
  ∀ w (a b a' b' : Wide256) rest p,
    (0x20 ≤ (w.extractLsb' 8 8).toNat →
      State.serve ⟨⟨w, a, b⟩ :: rest, p⟩ = State.serve ⟨⟨w, a, b'⟩ :: rest, p⟩) ∧
    (0x30 ≤ (w.extractLsb' 8 8).toNat →
      State.serve ⟨⟨w, a, b⟩ :: rest, p⟩ = State.serve ⟨⟨w, a', b'⟩ :: rest, p⟩)

/-- R48, R24 (D24): the block answers in the order it accepted, one response per command, each the response that the command
gets alone; fault responses included. -/
def Obligations.ResponsesComeInAcceptanceOrder : Prop :=
  ∀ s, State.portTrace s.queue.length s = s.queue.map responseTo ∧ ∀ c, (responseTo c).isSome = true

/-- R230 (D8): a run of the queued commands is successful iff each of them alone gets an OK response. -/
def Obligations.SuccessfulRunIsAllOk : Prop :=
  ∀ s, Successful s.queue.length s ↔ ∀ c ∈ s.queue, ∃ o, responseTo c = some ⟨0, some o⟩

/-- R48 (D24), in every interleaving of accepts with cycles and for every LATENCY: what was delivered, and then what the commands
still queued will get, is what the accepted commands get alone, in order. The clock is the model's (log 6). -/
def Obligations.OrderHoldsInEveryInterleaving : Prop :=
  ∀ (m : Clocked) (es : List Event), Event.reset ∉ es →
    m.responses es ++ (m.run es).core.queue.filterMap responseTo =
      (m.core.queue ++ acceptedBy es).filterMap responseTo

/-- R266 (D24): every accepted command is answered after finitely many cycles, unless a reset intervenes. Whatever is
accepted between the cycles, there are as many cycles as answer, in order, every command that is queued now; and with
nothing more accepted the queue runs empty. The clock is the model's (log 6). -/
def Obligations.EveryCommandIsAnswered : Prop :=
  (∀ m : Clocked, ∃ n, ∀ es : List Event, Event.reset ∉ es → n ≤ es.count .cycle →
    m.core.queue.map responseTo <+: (m.responses es).map some) ∧
  ∀ m : Clocked, ∃ n, (m.run (List.replicate n .cycle)).core.queue = [] ∧
    m.responses (List.replicate n .cycle) = m.core.queue.filterMap responseTo

/-- R261 (D28): a reset empties the queue, and a command in flight gets no response: what is delivered after the reset are the
responses to commands accepted after it. -/
def Obligations.ResetDropsCommandsInFlight : Prop :=
  ∀ (m : Clocked) (es : List Event), Event.reset ∉ es →
    (m.event .reset).core = State.reset ∧ m.delivered .reset = [] ∧
    (m.event .reset).responses es ++ ((m.event .reset).run es).core.queue.filterMap responseTo =
      (acceptedBy es).filterMap responseTo
end

