-- ==== Sys2Proof/Laws/Operands.lean ====
section
/-! SUPPORT. Operands, results, limbs and host bytes as natural numbers. -/

namespace Sys2Proof.Machine

theorem bits_lt {n : Nat} (x : BitVec n) (hi lo : Nat) : bits x hi lo < 2 ^ (hi + 1 - lo) :=
  Nat.mod_lt _ (Nat.two_pow_pos _)

/-- `X[hi:0]` of a number below 2^(hi+1) is the number. -/
theorem bits_zero_lo {n : Nat} (x : BitVec n) (hi : Nat) : bits x hi 0 = x.toNat % 2 ^ (hi + 1) := by
  simp [bits]

@[simp] theorem selectWidth_toNat (W : Nat) (x : Wide256) : (selectWidth W x).toNat = x.toNat % 2 ^ W :=
  BitVec.toNat_setWidth ..

/-- A narrow operand is the number in its low nw bits, for a word of at least that width. -/
theorem narrowed_toNat {W : Nat} {nw : NarrowWidth} (h : narrowBits W nw ≤ W) (x : Wide256) :
    (narrowed W nw x).toNat = x.toNat % 2 ^ narrowBits W nw := by
  rw [narrowed, BitVec.toNat_setWidth, BitVec.toNat_setWidth]
  exact Nat.mod_eq_of_lt ((Nat.mod_lt _ (Nat.two_pow_pos _)).trans_le (Nat.pow_le_pow_right (by decide) h))

theorem narrowBits_le {W : Nat} (nw : NarrowWidth) (h : 32 ≤ W) : narrowBits W nw ≤ W := by
  cases nw <;> simp only [narrowBits] <;> omega

/-- A result is placed as the same number (mod 2^256), with 0 above it (30_encoding.md R68). -/
theorem placeResult_eq {W : Nat} (v : BitVec W) : placeResult v = BitVec.ofNat 256 v.toNat := by
  apply BitVec.eq_of_toNat_eq
  simp [placeResult, BitVec.toNat_setWidth]

theorem limbsValue_lt (ls : List Limb) : limbsValue ls < 2 ^ (64 * ls.length) := by
  induction ls with
  | nil => simp [limbsValue]
  | cons l ls ih =>
    have hl := l.isLt
    simp only [limbsValue, List.length_cons, Nat.mul_add, Nat.mul_one, Nat.pow_add] at *
    generalize 2 ^ (64 * ls.length) = m at *
    omega

/-- Four limbs fill an operand exactly. -/
theorem ofLimbs_toNat {ls : List Limb} (h : ls.length ≤ 4) : (ofLimbs ls).toNat = limbsValue ls := by
  rw [ofLimbs, BitVec.toNat_ofNat]
  exact Nat.mod_eq_of_lt ((limbsValue_lt ls).trans_le (Nat.pow_le_pow_right (by decide) (by omega)))

/-- A limb as a number. -/
theorem limb_toNat {n : Nat} (v : BitVec n) (i : Nat) : (limb v i).toNat = v.toNat / 2 ^ (64 * i) % 2 ^ 64 := by
  simp [limb, BitVec.extractLsb'_toNat, Nat.shiftRight_eq_div_pow]

/-- A limb survives its storage in a host's memory in either byte order: no rule depends on HOST_BYTE_ORDER
(20_memory.md R43). -/
theorem limbOfHostBytes_limbToHostBytes (o : ByteOrder) (l : Limb) :
    limbOfHostBytes o (limbToHostBytes o l) = l := by
  have key : limbOfHostBytes .littleEndian (limbToHostBytes .littleEndian l) = l := by
    apply BitVec.eq_of_toNat_eq
    have := l.isLt
    simp [limbOfHostBytes, limbToHostBytes, List.range_succ, BitVec.extractLsb'_toNat, Nat.shiftRight_eq_div_pow]
    omega
  cases o
  · exact key
  · simpa [limbOfHostBytes, limbToHostBytes] using key

end Sys2Proof.Machine
end

