-- ==== Sys2Proof/Laws/Bid.lean ====
section
/-! SUPPORT. The digit count of 43_classify.md R186, and the ranges of a decoded word. -/

namespace Sys2Proof.Machine

/-- A number with d digits, d ≥ 1, is below 10^d and at least 10^(d−1). -/
theorem digitsUpTo_bounds {fuel n : Nat} (h : n < 10 ^ fuel) (hn : n ≠ 0) :
    ∃ d, digitsUpTo fuel n = d + 1 ∧ 10 ^ d ≤ n ∧ n < 10 ^ (d + 1) := by
  induction fuel generalizing n with
  | zero => simp at h; omega
  | succ fuel ih =>
    rw [digitsUpTo, if_neg hn]
    by_cases h0 : n / 10 = 0
    · exact ⟨0, by rw [h0]; cases fuel <;> simp [digitsUpTo], by omega, by omega⟩
    · obtain ⟨d, hd, lo, hi⟩ := ih (by rw [Nat.pow_succ] at h; omega) h0
      exact ⟨d + 1, by rw [hd], by rw [Nat.pow_succ]; omega, by rw [Nat.pow_succ]; omega⟩

/-- The two forms of R186 agree: counting digits, and comparing powers of ten. -/
theorem digits10_add_le_iff {c : Nat} (e p : Nat) (hc : c ≠ 0) (h : c < 10 ^ 78) (hp : 0 < p) :
    p ≤ digits10 c + e ↔ 10 ^ (p - 1) ≤ c * 10 ^ e := by
  obtain ⟨d, hd, lo, hi⟩ := digitsUpTo_bounds h hc
  rw [digits10, hd]
  constructor
  · intro hle
    calc 10 ^ (p - 1) ≤ 10 ^ (d + e) := Nat.pow_le_pow_right (by decide) (by omega)
      _ = 10 ^ d * 10 ^ e := Nat.pow_add ..
      _ ≤ c * 10 ^ e := Nat.mul_le_mul_right _ lo
  · intro hle
    have : 10 ^ (p - 1) < 10 ^ (d + 1 + e) := by
      rw [Nat.pow_add]
      exact hle.trans_lt (Nat.mul_lt_mul_of_pos_right hi (Nat.pow_pos (by decide)))
    have := (Nat.pow_lt_pow_iff_right (by decide : 1 < 10)).1 this
    omega

/-- A coefficient that does not read as zero is canonical and not zero. -/
theorem zeroCoeff_eq_false {f : DecFormat} {c : Nat} : zeroCoeff f c = false ↔ c ≠ 0 ∧ c ≤ f.maxCoeff := by
  simp [zeroCoeff, nonCanonical]

theorem zeroCoeff_eq_true {f : DecFormat} {c : Nat} : zeroCoeff f c = true ↔ c = 0 ∨ f.maxCoeff < c := by
  simp [zeroCoeff, nonCanonical]

/-- A canonical coefficient has at most 70 digits. -/
theorem maxCoeff_lt (f : DecFormat) : f.maxCoeff < 10 ^ 78 := by cases f <;> decide

end Sys2Proof.Machine
end

