-- ==== Sys2Proof/Laws/State.lean ====
section
/-! SUPPORT. One lemma for each field and each update of State, Command, Outputs and Response. -/

namespace Sys2Proof.Machine

variable (s : State) (c : Command) (r : Response) (o : Outputs) (k : FaultKind)

@[simp] theorem State.deliver_queue : (s.deliver r).queue = s.queue.tail := rfl
@[simp] theorem State.deliver_response : (s.deliver r).response = some r := rfl
@[simp] theorem State.quiet_queue : s.quiet.queue = s.queue := rfl
@[simp] theorem State.quiet_response : s.quiet.response = none := rfl
@[simp] theorem State.accept_queue : (s.accept c).queue = s.queue ++ [c] := rfl
@[simp] theorem State.accept_response : (s.accept c).response = s.response := rfl
@[simp] theorem State.reset_queue : State.reset.queue = [] := rfl
@[simp] theorem State.reset_response : State.reset.response = none := rfl

/-- Only the word at the head is set: the port and the commands behind the head stay as they are. -/
@[simp] theorem State.placeWord_response (w : CmdWord) : (s.placeWord w).response = s.response := by
  unfold State.placeWord; split <;> rfl

@[simp] theorem State.placeWord_tail (w : CmdWord) : (s.placeWord w).queue.tail = s.queue.tail := by
  unfold State.placeWord; split <;> simp_all

/-- The command that is answered next has the placed word. -/
theorem State.placeWord_head (w : CmdWord) : ∃ a b, (s.placeWord w).queue = ⟨w, a, b⟩ :: s.queue.tail := by
  unfold State.placeWord; split <;> simp_all

@[simp] theorem Response.ok_status : (Response.ok o).status = 0 := rfl
@[simp] theorem Response.ok_outputs : (Response.ok o).outputs = some o := rfl
@[simp] theorem Response.fault_outputs : (Response.fault k).outputs = none := rfl

@[simp] theorem Outputs.zero_r : Outputs.zero.r = 0 := rfl
@[simp] theorem Outputs.zero_t : Outputs.zero.t = false := rfl
@[simp] theorem Outputs.zero_dsign : Outputs.zero.dsign = false := rfl
@[simp] theorem Outputs.zero_dcls : Outputs.zero.dcls = 0 := rfl
@[simp] theorem Outputs.zero_dexp : Outputs.zero.dexp = 0 := rfl
@[simp] theorem Outputs.zero_dnc : Outputs.zero.dnc = false := rfl

variable (v : Wide256) (b : Bool)

@[simp] theorem Outputs.result_r : (Outputs.result v).r = v := rfl
@[simp] theorem Outputs.result_t : (Outputs.result v).t = false := rfl
@[simp] theorem Outputs.result_dsign : (Outputs.result v).dsign = false := rfl
@[simp] theorem Outputs.result_dcls : (Outputs.result v).dcls = 0 := rfl
@[simp] theorem Outputs.result_dexp : (Outputs.result v).dexp = 0 := rfl
@[simp] theorem Outputs.result_dnc : (Outputs.result v).dnc = false := rfl
@[simp] theorem Outputs.predicate_r : (Outputs.predicate b).r = 0 := rfl
@[simp] theorem Outputs.predicate_t : (Outputs.predicate b).t = b := rfl
@[simp] theorem Outputs.predicate_dsign : (Outputs.predicate b).dsign = false := rfl
@[simp] theorem Outputs.predicate_dcls : (Outputs.predicate b).dcls = 0 := rfl
@[simp] theorem Outputs.predicate_dexp : (Outputs.predicate b).dexp = 0 := rfl
@[simp] theorem Outputs.predicate_dnc : (Outputs.predicate b).dnc = false := rfl

@[simp] theorem Fault.after_illegal : (Fault.illegal s).after = s := rfl
@[simp] theorem Fault.after_divZero : (Fault.divZero s).after = s := rfl
@[simp] theorem Fault.kind_illegal : (Fault.illegal s).kind = .illegal := rfl
@[simp] theorem Fault.kind_divZero : (Fault.divZero s).kind = .divZero := rfl

end Sys2Proof.Machine
end

