-- ==== Sys2Proof/Laws/Ops.lean ====
section
/-! SUPPORT. What the shared operations can do, said once: provers cite these and do not unfold `answer`. -/

namespace Sys2Proof.Machine

variable {f : Command → Except FaultKind Outputs} {c : Command} {rest : List Command} {p : Option Response}

/-- A fault response leaves the younger commands and STATUS alone. -/
theorem raiseFault_eq (k : FaultKind) (s : State) :
    ∃ e : Fault, raiseFault k s = .fault e ∧ e.kind = k ∧ e.after = ⟨s.queue.tail, some ⟨k.code, none⟩⟩ := by
  cases k <;> exact ⟨_, rfl, rfl, rfl⟩

theorem raiseFault_divZero (s : State) :
    raiseFault .divZero s = .fault (.divZero ⟨s.queue.tail, some ⟨2, none⟩⟩) := rfl

theorem raiseFault_illegal (s : State) :
    raiseFault .illegal s = .fault (.illegal ⟨s.queue.tail, some ⟨1, none⟩⟩) := rfl

theorem answer_nil : answer f ⟨[], p⟩ = .refused .noCommand := rfl

/-- With outputs: the command leaves the queue, and the response carries them. -/
theorem answer_ok {o : Outputs} (h : f c = .ok o) :
    answer f ⟨c :: rest, p⟩ = .next ⟨rest, some ⟨0, some o⟩⟩ := by
  simp [answer, h, State.deliver, Response.ok, statusOk]

/-- With a fault: the one fault operation. -/
theorem answer_error {k : FaultKind} (h : f c = .error k) :
    answer f ⟨c :: rest, p⟩ = raiseFault k ⟨c :: rest, p⟩ := by
  simp [answer, h]

/-- Everything `answer` can do. -/
theorem answer_cases (f : Command → Except FaultKind Outputs) (s : State) :
    (s.queue = [] ∧ answer f s = .refused .noCommand) ∨
    (∃ c rest o, s.queue = c :: rest ∧ f c = .ok o ∧ answer f s = .next ⟨rest, some ⟨0, some o⟩⟩) ∨
    (∃ c rest k, s.queue = c :: rest ∧ f c = .error k ∧ answer f s = raiseFault k s) := by
  obtain ⟨_ | ⟨c, rest⟩, p⟩ := s
  · exact .inl ⟨rfl, rfl⟩
  · cases h : f c with
    | ok o => exact .inr (.inl ⟨c, rest, o, rfl, h, answer_ok h⟩)
    | error k => exact .inr (.inr ⟨c, rest, k, rfl, h, answer_error h⟩)

/-- A command that writes R alone answers OK on every operand value. -/
theorem answerResult_cons {W : Nat} (g : Command → BitVec W) (c : Command) (rest : List Command) (p : Option Response) :
    answerResult g ⟨c :: rest, p⟩ = .next ⟨rest, some ⟨0, some (.result (placeResult (g c)))⟩⟩ :=
  answer_ok rfl

/-- A command that writes T alone answers OK on every operand value. -/
theorem answerPredicate_cons (g : Command → Bool) (c : Command) (rest : List Command) (p : Option Response) :
    answerPredicate g ⟨c :: rest, p⟩ = .next ⟨rest, some ⟨0, some (.predicate (g c))⟩⟩ :=
  answer_ok rfl

end Sys2Proof.Machine
end

