-- ==== Sys2Proof/Laws/BidRow.lean ====
section
/-! SUPPORT. The decoded view in the absolute bit positions of 30_encoding.md R86: the terms of the claims. -/

namespace Sys2Proof.Machine

open Sys2Proof.Safety

/-- X as a number. -/
theorem decimalOperand_toNat (f : DecFormat) (c : Command) : (decimalOperand f c).toNat = wordX f c := by
  cases f <;> exact selectWidth_toNat _ _

theorem wordX_lt (f : DecFormat) (c : Command) : wordX f c < 2 ^ (row f).k := Nat.mod_lt _ (Nat.two_pow_pos _)

theorem top5Of_lt (f : DecFormat) (x : Nat) : top5Of f x < 32 := Nat.mod_lt _ (by decide)

theorem kindOf_lt (f : DecFormat) (x : Nat) : kindOf f x < 2 := Nat.mod_lt _ (by decide)

variable (f : DecFormat) (x : BitVec f.width)

theorem top5_eq : top5 f x = top5Of f x.toNat := by cases f <;> rfl

theorem signBit_eq : signBit f x = signOf f x.toNat := by
  cases f <;> simp [signBit, signOf, bits, row, DecFormat.width] <;> rfl

theorem tagBits_eq : bits x (f.width - 2) (f.width - 3) = x.toNat / 2 ^ (row f).tag % 4 := by cases f <;> rfl

theorem kindBit_eq : bits x (f.width - 7) (f.width - 7) = kindOf f x.toNat := by cases f <;> rfl

theorem payload_eq : bits x (f.width - 8) 0 = payloadOf f x.toNat := by
  rw [bits_zero_lo]
  cases f <;> rfl

theorem form1_eq (h : ¬ x.toNat / 2 ^ (row f).tag % 4 = 3) :
    form1 f x = .finite (expOf f x.toNat) (coeffOf f x.toNat) := by
  unfold form1 expOf coeffOf
  rw [if_neg h, if_neg h, bits_zero_lo]
  cases f <;> rfl

theorem form2_eq (h : x.toNat / 2 ^ (row f).tag % 4 = 3) :
    form2 f x = .finite (expOf f x.toNat) (coeffOf f x.toNat) := by
  unfold form2 expOf coeffOf
  rw [if_pos h, if_pos h, bits_zero_lo]
  have low : bits x f.trailBits f.trailBits * 2 ^ f.trailBits + x.toNat % 2 ^ (f.trailBits - 1 + 1) =
      x.toNat % 2 ^ (row f).e2 := by
    unfold bits
    generalize x.toNat = n
    cases f <;> simp [DecFormat.trailBits, DecFormat.width, row] <;> omega
  rw [Nat.add_assoc, low]
  cases f <;> rfl

/-- Everything the decode function can answer (30_encoding.md R82, R88). -/
theorem decodeBid_cases (f : DecFormat) (c : Command) :
    (decodeBid f (decimalOperand f c)).sign = signOf f (wordX f c) ∧
    ((top5Of f (wordX f c) = 31 ∧ kindOf f (wordX f c) = 1 ∧
        (decodeBid f (decimalOperand f c)).value = .signalingNaN (payloadOf f (wordX f c))) ∨
      (top5Of f (wordX f c) = 31 ∧ kindOf f (wordX f c) = 0 ∧
        (decodeBid f (decimalOperand f c)).value = .quietNaN (payloadOf f (wordX f c))) ∨
      (top5Of f (wordX f c) = 30 ∧ (decodeBid f (decimalOperand f c)).value = .infinite) ∨
      (FiniteWord f (wordX f c) ∧
        (decodeBid f (decimalOperand f c)).value = .finite (expOf f (wordX f c)) (coeffOf f (wordX f c)))) := by
  refine ⟨by simp [decodeBid, signBit_eq, decimalOperand_toNat], ?_⟩
  have hk := kindOf_lt f (wordX f c)
  have ht := top5Of_lt f (wordX f c)
  simp only [decodeBid, bidValue, nanValue, top5_eq, tagBits_eq, kindBit_eq, payload_eq, decimalOperand_toNat,
    FiniteWord]
  by_cases h1 : top5Of f (wordX f c) = 31
  · by_cases h2 : kindOf f (wordX f c) = 1
    · left
      simp [h1, h2]
    · right; left
      simp [h1, h2]
      omega
  · by_cases h3 : top5Of f (wordX f c) = 30
    · right; right; left
      simp [h3]
    · right; right; right
      rw [if_neg h1, if_neg h3]
      refine ⟨by omega, ?_⟩
      by_cases h4 : wordX f c / 2 ^ (row f).tag % 4 = 3
      · rw [if_pos h4]
        rw [← decimalOperand_toNat] at h4 ⊢
        exact form2_eq f _ h4
      · rw [if_neg h4]
        rw [← decimalOperand_toNat] at h4 ⊢
        exact form1_eq f _ h4

/-- Cmax by the formula and by the table (00_scope.md R7, R8). -/
theorem maxCoeff_eq (f : DecFormat) : f.maxCoeff = (row f).cmax := by cases f <;> rfl

/-- A coefficient has at most t + 4 bits (30_encoding.md R84, R85). -/
theorem coeffOf_lt (f : DecFormat) (n : Nat) : coeffOf f n < 2 ^ ((row f).t + 4) := by
  unfold coeffOf
  cases f <;> simp only [row] at * <;> norm_num at * <;> split <;> omega

/-- The exponent of a Finite word is at most Ebmax (30_encoding.md R84, R85). -/
theorem expOf_le (f : DecFormat) (n : Nat) (h : FiniteWord f n) : expOf f n ≤ (row f).ebmax := by
  unfold expOf
  unfold FiniteWord top5Of at h
  cases f <;> simp only [row] at * <;> norm_num at * <;> split <;> omega

/-- Everything DECODE does. -/
theorem answerDecode_cons (f : DecFormat) (c : Command) (rest : List Command) (p : Option Response) :
    answerDecode f ⟨c :: rest, p⟩ = .next (okState rest ((decodeBid f (decimalOperand f c)).outputs f)) :=
  answer_ok (f := fun c => .ok ((decodeBid f (decimalOperand f c)).outputs f)) rfl

/-- Everything a predicate does. -/
theorem answerClass_cons (f : DecFormat) (q : BidValue → Bool) (c : Command) (rest : List Command)
    (p : Option Response) :
    answerClass f q ⟨c :: rest, p⟩ = .next (okState rest (onlyT (q (decodeBid f (decimalOperand f c)).value))) :=
  answerPredicate_cons _ c rest p

/-- Everything a constructor does. -/
theorem answerConstant_cons (f : DecFormat) (n : Nat) (c : Command) (rest : List Command) (p : Option Response) :
    answerConstant f n ⟨c :: rest, p⟩ = .next (okState rest (onlyR (BitVec.ofNat f.width n).toNat)) := by
  rw [answerConstant, answerResult_cons, placeResult_eq]
  rfl

end Sys2Proof.Machine
end

