-- ==== Sys2Proof/Laws/Decode.lean ====
section
/-! SUPPORT. The command word and its fields, and what the decoder can answer, said once. -/

namespace Sys2Proof

open Sys2Proof.Safety

/-- A word is its five fields, each in its place (30_encoding.md R60). -/
theorem toNat_eq_fields (w : CmdWord) :
    w.toNat = opcField w * 256 + wcField w * 32 + nwField w * 8 + nsField w * 4 + rsvField w := by
  have := w.isLt
  simp only [opcField, wcField, nwField, nsField, rsvField]
  omega

theorem nwField_lt (w : CmdWord) : nwField w < 4 := Nat.mod_lt _ (by decide)

theorem nsField_lt (w : CmdWord) : nsField w < 2 := Nat.mod_lt _ (by decide)

/-- The fields as bit ranges (30_encoding.md R60). -/
theorem extract_eq_fields (w : CmdWord) :
    (w.extractLsb' 8 8).toNat = opcField w ∧ (w.extractLsb' 5 3).toNat = wcField w ∧
    (w.extractLsb' 3 2).toNat = nwField w ∧ (w.extractLsb' 2 1).toNat = nsField w ∧
    (w.extractLsb' 0 2).toNat = rsvField w := by
  have := w.isLt
  simp only [BitVec.extractLsb'_toNat, Nat.shiftRight_eq_div_pow, opcField, wcField, nwField, nsField, rsvField,
    Nat.reducePow]
  refine ⟨?_, ?_, ?_, ?_, ?_⟩ <;> first | trivial | omega

/-- The decoder's answer has the fields that were decoded, and is well formed. -/
def ReadFrom (opc wc nw ns : Nat) (i : Instr) : Prop := i.wellFormed = true ∧ i.fields = ⟨opc, wc, nw, ns⟩

theorem plainRow_ok {nw ns : Nat} {i j : Instr} (h : plainRow nw ns i = .ok j) : nw = 0 ∧ ns = 0 ∧ j = i := by
  unfold plainRow at h
  split at h <;> simp_all

theorem narrowRow_ok {nw ns : Nat} {row : NarrowWidth → NarrowSide → Instr} {j : Instr} (hn : nw < 4) (hs : ns < 2)
    (h : narrowRow nw ns row = .ok j) :
    ∃ x y, nw = NarrowWidth.code x ∧ ns = NarrowSide.code y ∧ narrowLegal x y = true ∧ j = row x y := by
  unfold narrowRow at h
  split at h
  · refine ⟨narrowWidthOf nw, narrowSideOf ns, ?_, ?_, ‹_›, ?_⟩
    · interval_cases nw <;> rfl
    · interval_cases ns <;> rfl
    · simp_all
  · cases h

theorem wides_ok {opc wc nw ns : Nat} {row : WideWidth → Instr} {j : Instr}
    (hr : ∀ W, ReadFrom opc (wideWc W) 0 0 (row W)) (h : wides wc nw ns row = .ok j) : ReadFrom opc wc nw ns j := by
  unfold wides at h
  split at h
  all_goals first | (obtain ⟨rfl, rfl, rfl⟩ := plainRow_ok h; exact hr _) | cases h

theorem formats_ok {opc wc nw ns : Nat} {row : DecFormat → Instr} {j : Instr}
    (hr : ∀ f, ReadFrom opc (decWc f) 0 0 (row f)) (h : formats wc nw ns row = .ok j) : ReadFrom opc wc nw ns j := by
  unfold formats at h
  split at h
  all_goals first | (obtain ⟨rfl, rfl, rfl⟩ := plainRow_ok h; exact hr _) | cases h

theorem plainWords_ok {opc wc nw ns : Nat} {row : WordWidth → Instr} {j : Instr}
    (hr : ∀ W, ReadFrom opc (wordWc W) 0 0 (row W)) (h : plainWords wc nw ns row = .ok j) :
    ReadFrom opc wc nw ns j := by
  unfold plainWords at h
  split at h
  all_goals first | (obtain ⟨rfl, rfl, rfl⟩ := plainRow_ok h; exact hr _) | cases h

theorem narrowWords_ok {opc wc nw ns : Nat} {row : WordWidth → NarrowWidth → NarrowSide → Instr} {j : Instr}
    (hn : nw < 4) (hs : ns < 2)
    (hr : ∀ W x y, narrowLegal x y = true → ReadFrom opc (wordWc W) x.code y.code (row W x y))
    (h : narrowWords wc nw ns row = .ok j) : ReadFrom opc wc nw ns j := by
  unfold narrowWords at h
  split at h
  all_goals
    first
    | (obtain ⟨x, y, rfl, rfl, hl, rfl⟩ := narrowRow_ok hn hs h; exact hr _ _ _ hl)
    | cases h

/-- What the operation codes can answer. -/
theorem decodeFields_ok {opc wc nw ns : Nat} {j : Instr} (hn : nw < 4) (hs : ns < 2)
    (h : decodeFields opc wc nw ns = .ok j) : ReadFrom opc wc nw ns j := by
  unfold decodeFields at h
  split at h
  all_goals
    first
    | (refine formats_ok ?_ h; intro f; cases f <;> exact ⟨rfl, rfl⟩)
    | (refine wides_ok ?_ h; intro W; cases W <;> exact ⟨rfl, rfl⟩)
    | (refine narrowWords_ok hn hs ?_ h; intro W x y hl; cases W <;> exact ⟨hl, rfl⟩)
    | (split at h
       · first
         | (refine plainWords_ok ?_ h; intro W; cases W <;> exact ⟨rfl, rfl⟩)
         | (refine narrowWords_ok hn hs ?_ h; intro W x y hl; cases W <;> exact ⟨hl, rfl⟩)
       · (refine wides_ok ?_ h; intro W; cases W <;> exact ⟨rfl, rfl⟩))
    | cases h

/-- Everything the decoder can answer: a well-formed command with the word's fields, from a word whose RSV is 00. -/
theorem decode_reads {w : CmdWord} {i : Instr} (h : decode w = .ok i) :
    rsvField w = 0 ∧ ReadFrom (opcField w) (wcField w) (nwField w) (nsField w) i := by
  unfold decode at h
  split at h
  · exact ⟨‹_›, decodeFields_ok (nwField_lt w) (nsField_lt w) h⟩
  · cases h

/-- The rows of R61 that hold an operation code and a width code, as a check that runs. -/
theorem mem_opcTable_iff (opc wc : Nat) :
    (∃ wcs, (opc, wcs) ∈ opcTable ∧ wc ∈ wcs) ↔ (opcTable.any fun e => e.1 == opc && e.2.contains wc) = true := by
  simp only [List.any_eq_true, Bool.and_eq_true, beq_iff_eq, List.contains_iff_mem]
  constructor
  · rintro ⟨w, h, h'⟩
    exact ⟨_, h, rfl, h'⟩
  · rintro ⟨⟨_, _⟩, h, rfl, h'⟩
    exact ⟨_, h, h'⟩

end Sys2Proof
end

