-- ==== Sys2Proof/Laws/Integers.lean ====
section
/-! SUPPORT. The integer operations in the terms of the claims: operands as numbers, and the limb forms of 41_wide.md. -/

namespace Sys2Proof.Machine

open Sys2Proof.Safety

theorem wordWidth_ge (W : WordWidth) : 32 ≤ W.width := by cases W <;> decide

/-- A' as a number (30_encoding.md R67). -/
theorem promotedA_toNat (W : WordWidth) (nw : NarrowWidth) (ns : NarrowSide) (c : Command) :
    (promotedA W.width nw ns c).toNat = aPrime W.width nw ns c := by
  cases ns
  · simp [promotedA, aPrime, low]
  · simp only [promotedA, aPrime, if_true]
    rw [narrowed_toNat (narrowBits_le nw (wordWidth_ge W))]
    cases nw <;> rfl

/-- B' as a number (30_encoding.md R67). -/
theorem promotedB_toNat (W : WordWidth) (nw : NarrowWidth) (ns : NarrowSide) (c : Command) :
    (promotedB W.width nw ns c).toNat = bPrime W.width nw ns c := by
  cases ns
  · simp only [promotedB, bPrime, if_true]
    rw [narrowed_toNat (narrowBits_le nw (wordWidth_ge W))]
    cases nw <;> rfl
  · simp [promotedB, bPrime, low]

/-- A result output as a number. -/
theorem result_placeResult {W : Nat} (v : BitVec W) : Outputs.result (placeResult v) = onlyR v.toNat := by
  rw [placeResult_eq]
  rfl

/-- Everything a word command that writes R does. -/
theorem answerWord_cons (W : Nat) (nw : NarrowWidth) (ns : NarrowSide) (op : BitVec W → BitVec W → BitVec W)
    (c : Command) (rest : List Command) (p : Option Response) :
    answerWord W nw ns op ⟨c :: rest, p⟩ =
      .next (okState rest (onlyR (op (promotedA W nw ns c) (promotedB W nw ns c)).toNat)) := by
  rw [answerWord, answerResult_cons, result_placeResult]
  rfl

/-- Everything a wide command that writes R does. -/
theorem answerWide_cons (W : Nat) (op : BitVec W → BitVec W → BitVec W) (c : Command) (rest : List Command)
    (p : Option Response) :
    answerWide W op ⟨c :: rest, p⟩ =
      .next (okState rest (onlyR (op (selectWidth W c.a) (selectWidth W c.b)).toNat)) := by
  rw [answerWide, answerResult_cons, result_placeResult]
  rfl

/-- The two things a divide does. -/
theorem answerDivide_cons (W : Nat) (nw : NarrowWidth) (ns : NarrowSide) (c : Command) (rest : List Command)
    (p : Option Response) :
    answerDivide W nw ns ⟨c :: rest, p⟩ =
      if promotedB W nw ns c = 0 then raiseFault .divZero ⟨c :: rest, p⟩
      else .next (okState rest (onlyR (promotedA W nw ns c / promotedB W nw ns c).toNat)) := by
  split
  · exact answer_error (if_pos ‹_›)
  · rw [← result_placeResult]
    exact answer_ok (if_neg ‹_›)

/-! ## Limbs -/

/-- The limbs of the low W bits are a number below 2^W. -/
theorem limbsValue_limbsOf (W : WideWidth) (x : Wide256) : limbsValue (limbsOf W x) = low W.width x := by
  have := x.isLt
  cases W <;>
    simp [limbsOf, List.range_succ, WideWidth.width, limbsValue, low, BitVec.extractLsb'_toNat,
      Nat.shiftRight_eq_div_pow] <;>
    omega

theorem length_limbsOf (W : WideWidth) (x : Wide256) : (limbsOf W x).length = W.width / 64 := by simp [limbsOf]

/-- The carry chain adds. -/
theorem limbsValue_addLimbs {as bs : List Limb} (c : Nat) (h : as.length = bs.length) :
    limbsValue (addLimbs as bs c) = (limbsValue as + limbsValue bs + c) % 2 ^ (64 * as.length) := by
  induction as generalizing bs c with
  | nil => cases bs <;> simp_all [addLimbs, limbsValue, Nat.mod_one]
  | cons a as ih =>
    cases bs with
    | nil => cases h
    | cons b bs =>
      simp only [addLimbs, limbsValue, ih _ (by simpa using h), List.length_cons]
      rw [show 64 * (as.length + 1) = 64 + 64 * as.length by ring, Nat.pow_add, Nat.mod_mul, BitVec.toNat_ofNat]
      congr 1
      · omega
      · congr 2
        omega

/-- A number modulo P·M from its low part and its high part. -/
theorem emod_mul_split (d K : Int) {P M : Int} (hP : 0 < P) (hM : 0 < M) :
    d % P + P * ((K + d / P) % M) = (d + P * K) % (P * M) := by
  have e : d + P * K = (d % P + P * ((K + d / P) % M)) + (P * M) * ((K + d / P) / M) := by
    have h1 := Int.emod_add_mul_ediv d P
    have h2 := Int.emod_add_mul_ediv (K + d / P) M
    generalize (K + d / P) % M = x at *
    generalize (K + d / P) / M = y at *
    calc d + P * K = (d % P + P * (d / P)) + P * K := by rw [h1]
      _ = d % P + P * (K + d / P) := by ring
      _ = d % P + P * (x + M * y) := by rw [h2]
      _ = _ := by ring
  rw [e, Int.add_mul_emod_self_left]
  symm
  apply Int.emod_eq_of_lt
  · have := Int.emod_nonneg d (ne_of_gt hP)
    have := Int.emod_nonneg (K + d / P) (ne_of_gt hM)
    positivity
  · have := Int.emod_lt_of_pos d hP
    have := Int.emod_lt_of_pos (K + d / P) hM
    nlinarith

/-- The borrow chain subtracts. -/
theorem limbsValue_subLimbs {as bs : List Limb} {w : Int} (hw : w = 0 ∨ w = 1) (h : as.length = bs.length) :
    (limbsValue (subLimbs as bs w) : Int) = ((limbsValue as : Int) - limbsValue bs - w) % 2 ^ (64 * as.length) := by
  induction as generalizing bs w with
  | nil => cases bs <;> simp_all [subLimbs, limbsValue]
  | cons a as ih =>
    cases bs with
    | nil => cases h
    | cons b bs =>
      have ha := a.isLt
      have hb := b.isLt
      simp only [subLimbs, limbsValue, List.length_cons, Nat.cast_add, Nat.cast_mul, BitVec.toNat_ofInt]
      rw [ih (by split <;> simp) (by simpa using h),
        show 64 * (as.length + 1) = 64 + 64 * as.length by ring, pow_add]
      have hq : ((a.toNat : Int) - b.toNat - w) / 2 ^ 64 = -(if ((a.toNat : Int) - b.toNat - w) < 0 then 1 else 0) := by
        split <;> omega
      have := emod_mul_split ((a.toNat : Int) - b.toNat - w) ((limbsValue as : Int) - limbsValue bs) (P := 2 ^ 64)
        (M := 2 ^ (64 * as.length)) (by positivity) (by positivity)
      rw [hq] at this
      rw [Int.toNat_of_nonneg (Int.emod_nonneg _ (by norm_num)),
        show ((a.toNat : Int) + ((2 ^ 64 : ℕ) : Int) * limbsValue as -
            (b.toNat + ((2 ^ 64 : ℕ) : Int) * limbsValue bs) - w) =
          ((a.toNat : Int) - b.toNat - w) + 2 ^ 64 * ((limbsValue as : Int) - limbsValue bs) by push_cast; ring,
        ← this]
      push_cast
      simp only [sub_eq_add_neg]

/-- The last limbs compared decide only where all others are equal. -/
theorem lessLimbs_append {as bs : List Limb} (a b : Limb) (h : as.length = bs.length) :
    lessLimbs (as ++ [a]) (bs ++ [b]) = if as = bs then decide (a.toNat < b.toNat) else lessLimbs as bs := by
  induction as generalizing bs with
  | nil =>
    cases bs with
    | nil => by_cases hab : a = b <;> simp [lessLimbs, hab]
    | cons _ _ => cases h
  | cons x as ih =>
    cases bs with
    | nil => cases h
    | cons y bs =>
      simp only [List.cons_append, lessLimbs, ih (by simpa using h), List.cons.injEq]
      by_cases hxy : x = y <;> simp [hxy]

/-- Limbs of one length are equal exactly when their values are. -/
theorem limbsValue_inj {as bs : List Limb} (h : as.length = bs.length) :
    limbsValue as = limbsValue bs ↔ as = bs := by
  induction as generalizing bs with
  | nil => cases bs <;> simp_all
  | cons a as ih =>
    cases bs with
    | nil => cases h
    | cons b bs =>
      have ha := a.isLt
      have hb := b.isLt
      rw [List.cons.injEq, ← ih (by simpa using h), ← BitVec.toNat_inj]
      simp only [limbsValue]
      omega

/-- Comparing limbs from the most significant down compares values. -/
theorem lessLimbs_reverse {as bs : List Limb} (h : as.length = bs.length) :
    lessLimbs as.reverse bs.reverse = decide (limbsValue as < limbsValue bs) := by
  induction as generalizing bs with
  | nil => cases bs <;> simp_all [lessLimbs, limbsValue]
  | cons a as ih =>
    cases bs with
    | nil => cases h
    | cons b bs =>
      have ha := a.isLt
      have hb := b.isLt
      have hl : as.length = bs.length := by simpa using h
      rw [List.reverse_cons, List.reverse_cons, lessLimbs_append _ _ (by simpa using h)]
      simp only [List.reverse_inj]
      split
      · subst ‹as = bs›
        apply decide_eq_decide.2
        simp only [limbsValue]
        omega
      · rename_i he
        rw [← limbsValue_inj hl] at he
        rw [ih hl]
        apply decide_eq_decide.2
        simp only [limbsValue]
        omega

end Sys2Proof.Machine
end

