-- ==== Sys2Proof/Laws/PerInstr.lean ====
section
/-! SUPPORT. Facts stated for each constructor of Instr, as syntax. -/

/-- The fields read back from a command's word are the fields of its row, and RSV is 00 (30_encoding.md R60). -/
def Sys2Proof.Laws.RowWord.Statement (i : Sys2Proof.Instr) : Prop :=
  (Sys2Proof.opcField (Sys2Proof.encode i) = i.fields.opc ∧ Sys2Proof.wcField (Sys2Proof.encode i) = i.fields.wc) ∧
    (Sys2Proof.nwField (Sys2Proof.encode i) = i.fields.nw ∧ Sys2Proof.nsField (Sys2Proof.encode i) = i.fields.ns) ∧
    Sys2Proof.rsvField (Sys2Proof.encode i) = 0

namespace Sys2Proof.Laws.RowWord

theorem addU32 (nw : NarrowWidth) (ns : NarrowSide) : Statement (.addU32 nw ns) := by
  cases nw <;> cases ns <;> (unfold Statement; decide)

theorem addU64 (nw : NarrowWidth) (ns : NarrowSide) : Statement (.addU64 nw ns) := by
  cases nw <;> cases ns <;> (unfold Statement; decide)

theorem addU128 : Statement .addU128 := by unfold Statement; decide

theorem addU192 : Statement .addU192 := by unfold Statement; decide

theorem addU256 : Statement .addU256 := by unfold Statement; decide

theorem subU32 (nw : NarrowWidth) (ns : NarrowSide) : Statement (.subU32 nw ns) := by
  cases nw <;> cases ns <;> (unfold Statement; decide)

theorem subU64 (nw : NarrowWidth) (ns : NarrowSide) : Statement (.subU64 nw ns) := by
  cases nw <;> cases ns <;> (unfold Statement; decide)

theorem subU128 : Statement .subU128 := by unfold Statement; decide

theorem subU192 : Statement .subU192 := by unfold Statement; decide

theorem subU256 : Statement .subU256 := by unfold Statement; decide

theorem mulU32 (nw : NarrowWidth) (ns : NarrowSide) : Statement (.mulU32 nw ns) := by
  cases nw <;> cases ns <;> (unfold Statement; decide)

theorem mulU64 (nw : NarrowWidth) (ns : NarrowSide) : Statement (.mulU64 nw ns) := by
  cases nw <;> cases ns <;> (unfold Statement; decide)

theorem mulU128 : Statement .mulU128 := by unfold Statement; decide

theorem mulU192 : Statement .mulU192 := by unfold Statement; decide

theorem mulU256 : Statement .mulU256 := by unfold Statement; decide

theorem divU32 (nw : NarrowWidth) (ns : NarrowSide) : Statement (.divU32 nw ns) := by
  cases nw <;> cases ns <;> (unfold Statement; decide)

theorem divU64 (nw : NarrowWidth) (ns : NarrowSide) : Statement (.divU64 nw ns) := by
  cases nw <;> cases ns <;> (unfold Statement; decide)

theorem xorU32 (nw : NarrowWidth) (ns : NarrowSide) : Statement (.xorU32 nw ns) := by
  cases nw <;> cases ns <;> (unfold Statement; decide)

theorem xorU64 (nw : NarrowWidth) (ns : NarrowSide) : Statement (.xorU64 nw ns) := by
  cases nw <;> cases ns <;> (unfold Statement; decide)

theorem eqU32 : Statement .eqU32 := by unfold Statement; decide

theorem eqU64 : Statement .eqU64 := by unfold Statement; decide

theorem eqU128 : Statement .eqU128 := by unfold Statement; decide

theorem eqU192 : Statement .eqU192 := by unfold Statement; decide

theorem eqU256 : Statement .eqU256 := by unfold Statement; decide

theorem ultU128 : Statement .ultU128 := by unfold Statement; decide

theorem ultU192 : Statement .ultU192 := by unfold Statement; decide

theorem ultU256 : Statement .ultU256 := by unfold Statement; decide

theorem decodeD32 : Statement .decodeD32 := by unfold Statement; decide

theorem decodeD64 : Statement .decodeD64 := by unfold Statement; decide

theorem decodeD128 : Statement .decodeD128 := by unfold Statement; decide

theorem decodeD256 : Statement .decodeD256 := by unfold Statement; decide

theorem isZeroD32 : Statement .isZeroD32 := by unfold Statement; decide

theorem isZeroD64 : Statement .isZeroD64 := by unfold Statement; decide

theorem isZeroD128 : Statement .isZeroD128 := by unfold Statement; decide

theorem isZeroD256 : Statement .isZeroD256 := by unfold Statement; decide

theorem isNanD32 : Statement .isNanD32 := by unfold Statement; decide

theorem isNanD64 : Statement .isNanD64 := by unfold Statement; decide

theorem isNanD128 : Statement .isNanD128 := by unfold Statement; decide

theorem isNanD256 : Statement .isNanD256 := by unfold Statement; decide

theorem isQNanD32 : Statement .isQNanD32 := by unfold Statement; decide

theorem isQNanD64 : Statement .isQNanD64 := by unfold Statement; decide

theorem isQNanD128 : Statement .isQNanD128 := by unfold Statement; decide

theorem isQNanD256 : Statement .isQNanD256 := by unfold Statement; decide

theorem isSNanD32 : Statement .isSNanD32 := by unfold Statement; decide

theorem isSNanD64 : Statement .isSNanD64 := by unfold Statement; decide

theorem isSNanD128 : Statement .isSNanD128 := by unfold Statement; decide

theorem isSNanD256 : Statement .isSNanD256 := by unfold Statement; decide

theorem isInfD32 : Statement .isInfD32 := by unfold Statement; decide

theorem isInfD64 : Statement .isInfD64 := by unfold Statement; decide

theorem isInfD128 : Statement .isInfD128 := by unfold Statement; decide

theorem isInfD256 : Statement .isInfD256 := by unfold Statement; decide

theorem isFiniteD32 : Statement .isFiniteD32 := by unfold Statement; decide

theorem isFiniteD64 : Statement .isFiniteD64 := by unfold Statement; decide

theorem isFiniteD128 : Statement .isFiniteD128 := by unfold Statement; decide

theorem isFiniteD256 : Statement .isFiniteD256 := by unfold Statement; decide

theorem isNormalD32 : Statement .isNormalD32 := by unfold Statement; decide

theorem isNormalD64 : Statement .isNormalD64 := by unfold Statement; decide

theorem isNormalD128 : Statement .isNormalD128 := by unfold Statement; decide

theorem isNormalD256 : Statement .isNormalD256 := by unfold Statement; decide

theorem zeroD32 : Statement .zeroD32 := by unfold Statement; decide

theorem zeroD64 : Statement .zeroD64 := by unfold Statement; decide

theorem zeroD128 : Statement .zeroD128 := by unfold Statement; decide

theorem zeroD256 : Statement .zeroD256 := by unfold Statement; decide

theorem mZeroD32 : Statement .mZeroD32 := by unfold Statement; decide

theorem mZeroD64 : Statement .mZeroD64 := by unfold Statement; decide

theorem mZeroD128 : Statement .mZeroD128 := by unfold Statement; decide

theorem mZeroD256 : Statement .mZeroD256 := by unfold Statement; decide

theorem infD32 : Statement .infD32 := by unfold Statement; decide

theorem infD64 : Statement .infD64 := by unfold Statement; decide

theorem infD128 : Statement .infD128 := by unfold Statement; decide

theorem infD256 : Statement .infD256 := by unfold Statement; decide

theorem mInfD32 : Statement .mInfD32 := by unfold Statement; decide

theorem mInfD64 : Statement .mInfD64 := by unfold Statement; decide

theorem mInfD128 : Statement .mInfD128 := by unfold Statement; decide

theorem mInfD256 : Statement .mInfD256 := by unfold Statement; decide

theorem qNanD32 : Statement .qNanD32 := by unfold Statement; decide

theorem qNanD64 : Statement .qNanD64 := by unfold Statement; decide

theorem qNanD128 : Statement .qNanD128 := by unfold Statement; decide

theorem qNanD256 : Statement .qNanD256 := by unfold Statement; decide

theorem mQNanD32 : Statement .mQNanD32 := by unfold Statement; decide

theorem mQNanD64 : Statement .mQNanD64 := by unfold Statement; decide

theorem mQNanD128 : Statement .mQNanD128 := by unfold Statement; decide

theorem mQNanD256 : Statement .mQNanD256 := by unfold Statement; decide

theorem sNanD32 : Statement .sNanD32 := by unfold Statement; decide

theorem sNanD64 : Statement .sNanD64 := by unfold Statement; decide

theorem sNanD128 : Statement .sNanD128 := by unfold Statement; decide

theorem sNanD256 : Statement .sNanD256 := by unfold Statement; decide

theorem mSNanD32 : Statement .mSNanD32 := by unfold Statement; decide

theorem mSNanD64 : Statement .mSNanD64 := by unfold Statement; decide

theorem mSNanD128 : Statement .mSNanD128 := by unfold Statement; decide

theorem mSNanD256 : Statement .mSNanD256 := by unfold Statement; decide

theorem minD32 : Statement .minD32 := by unfold Statement; decide

theorem minD64 : Statement .minD64 := by unfold Statement; decide

theorem minD128 : Statement .minD128 := by unfold Statement; decide

theorem minD256 : Statement .minD256 := by unfold Statement; decide

theorem maxD32 : Statement .maxD32 := by unfold Statement; decide

theorem maxD64 : Statement .maxD64 := by unfold Statement; decide

theorem maxD128 : Statement .maxD128 := by unfold Statement; decide

theorem maxD256 : Statement .maxD256 := by unfold Statement; decide

end Sys2Proof.Laws.RowWord
end

