-- ==== Sys2Proof/Laws/Step.lean ====
section
/-! SUPPORT. What a step can do, said once. -/

namespace Sys2Proof.Machine

/-- The four shapes of a meaning: it writes R alone, writes T alone, divides, or decodes. -/
inductive Shape : (State → Host.Outcome State Fault Refusal) → Prop where
  | result {W : Nat} (g : Command → BitVec W) : Shape (answerResult g)
  | predicate (g : Command → Bool) : Shape (answerPredicate g)
  | divide (W : Nat) (nw : NarrowWidth) (ns : NarrowSide) : Shape (answerDivide W nw ns)
  | decode (f : DecFormat) : Shape (answerDecode f)

/-- Every meaning has one of the four shapes. -/
theorem exec_shape (i : Instr) : Shape (exec i) := by
  have word W nw ns op : Shape (answerWord W nw ns op) := .result _
  have divide W nw ns : Shape (answerDivide W nw ns) := .divide W nw ns
  have equal W : Shape (answerEqual W) := .predicate _
  have wide W op : Shape (answerWide W op) := .result _
  have less W : Shape (answerLess W) := .predicate _
  have dec f : Shape (answerDecode f) := .decode f
  have cls f q : Shape (answerClass f q) := .predicate _
  have const f n : Shape (answerConstant f n) := .result _
  cases i
  case addU32 | addU64 | subU32 | subU64 | mulU32 | mulU64 | xorU32 | xorU64 => exact word ..
  case addU128 | addU192 | addU256 | subU128 | subU192 | subU256 | mulU128 | mulU192 | mulU256 => exact wide ..
  case divU32 | divU64 => exact divide ..
  case eqU32 | eqU64 | eqU128 | eqU192 | eqU256 => exact equal _
  case ultU128 | ultU192 | ultU256 => exact less _
  case decodeD32 | decodeD64 | decodeD128 | decodeD256 => exact dec _
  case isZeroD32 | isZeroD64 | isZeroD128 | isZeroD256 | isNanD32 | isNanD64 | isNanD128 | isNanD256 | isQNanD32
      | isQNanD64 | isQNanD128 | isQNanD256 | isSNanD32 | isSNanD64 | isSNanD128 | isSNanD256 | isInfD32 | isInfD64
      | isInfD128 | isInfD256 | isFiniteD32 | isFiniteD64 | isFiniteD128 | isFiniteD256 | isNormalD32 | isNormalD64
      | isNormalD128 | isNormalD256 => exact cls ..
  case zeroD32 | zeroD64 | zeroD128 | zeroD256 | mZeroD32 | mZeroD64 | mZeroD128 | mZeroD256 | infD32 | infD64
      | infD128 | infD256 | mInfD32 | mInfD64 | mInfD128 | mInfD256 | qNanD32 | qNanD64 | qNanD128 | qNanD256
      | mQNanD32 | mQNanD64 | mQNanD128 | mQNanD256 | sNanD32 | sNanD64 | sNanD128 | sNanD256 | mSNanD32 | mSNanD64
      | mSNanD128 | mSNanD256 | minD32 | minD64 | minD128 | minD256 | maxD32 | maxD64 | maxD128 | maxD256 => exact const ..

/-- Every meaning is `answer` of some function of the command's inputs: it reads nothing of the state but the oldest
command. -/
theorem exec_is_answer (i : Instr) : ∃ f, exec i = answer f := by
  have h := exec_shape i
  generalize exec i = m at h ⊢
  cases h with
  | result g => unfold answerResult; exact ⟨_, rfl⟩
  | predicate g => unfold answerPredicate; exact ⟨_, rfl⟩
  | divide W nw ns => unfold answerDivide; exact ⟨_, rfl⟩
  | decode f => unfold answerDecode; exact ⟨_, rfl⟩

/-- An illegal command word. -/
theorem step_illegal {c : Command} {rest : List Command} {p : Option Response} {e : Illegal}
    (h : decode c.cmd = .error e) : step ⟨c :: rest, p⟩ = raiseFault .illegal ⟨c :: rest, p⟩ := by
  simp only [step, h]

/-- Everything a step can do. -/
theorem step_cases (s : State) :
    (s.queue = [] ∧ step s = .next s.quiet) ∨
    (∃ c rest, s.queue = c :: rest ∧ ∃ o, step s = .next ⟨rest, some ⟨0, some o⟩⟩) ∨
    (∃ c rest, s.queue = c :: rest ∧ ∃ k, step s = raiseFault k s) := by
  obtain ⟨_ | ⟨c, rest⟩, p⟩ := s
  · exact .inl ⟨rfl, rfl⟩
  · refine .inr ?_
    cases h : decode c.cmd with
    | error _ => exact .inr ⟨c, rest, rfl, .illegal, step_illegal h⟩
    | ok i =>
      obtain ⟨f, hf⟩ := exec_is_answer i
      have he : step ⟨c :: rest, p⟩ = answer f ⟨c :: rest, p⟩ := by simp only [step, h, hf]
      rw [he]
      obtain ⟨h, -⟩ | ⟨_, _, o, h, -, e⟩ | ⟨_, _, k, h, -, e⟩ := answer_cases f ⟨c :: rest, p⟩
      · simp at h
      · exact .inl ⟨_, _, h, o, e⟩
      · exact .inr ⟨_, _, h, k, e⟩

/-- The next command runs next: what `withFetchWord` places is what `step` decodes. -/
theorem step_withFetchWord (s : State) (nbits w : Nat) :
    step (s.withFetchWord nbits w) =
      match decode (tableWord nbits w) with
      | .ok i => exec i (s.withFetchWord nbits w)
      | .error _ => raiseFault .illegal (s.withFetchWord nbits w) := by
  obtain ⟨a, b, h⟩ := s.placeWord_head (tableWord nbits w)
  cases hd : decode (tableWord nbits w) <;> simp [State.withFetchWord, step, h, hd]

/-- `serve` takes the oldest command from the queue and shows one response, or leaves the idle block idle. -/
theorem serve_queue (s : State) : s.serve.queue = s.queue.tail := by
  unfold State.serve
  obtain ⟨h, e⟩ | ⟨c, rest, h, o, e⟩ | ⟨c, rest, h, k, e⟩ := step_cases s
  · simp [e, h]
  · simp [e, h]
  · obtain ⟨x, hx, -, ha⟩ := raiseFault_eq k s
    simp [e, hx, ha]

end Sys2Proof.Machine
end

