-- ==== Sys2Proof/Tests/Slice0.lean ====
section
/-! SUPPORT. Tests of the model. The expected results are the spec's: the tables of 95_test_vectors.md (L2.1 to L2.6), the table of 44_constants.md R211, the encodings of opcode_table.json and 30_encoding.md R60 to R69. At the end, a witness for each hypothesis of the statements. -/

namespace Sys2Proof.Tests

open Sys2Proof Sys2Proof.Machine Sys2Proof.Safety

/-- The block with one accepted command. -/
def oneCommand (w : CmdWord) (a b : Wide256) : State := ⟨[⟨w, a, b⟩], none⟩

/-- The outputs of one command's response; none if it faults. -/
def outputs (w : CmdWord) (a b : Wide256) : Option Outputs :=
  match step (oneCommand w a b) with
  | .next s => s.response.bind (·.outputs)
  | .fault _ | .refused _ => none

/-- The fault of one command, and STATUS of its response. -/
def faultOf (w : CmdWord) (a b : Wide256) : Option (FaultKind × Option (BitVec 2)) :=
  match step (oneCommand w a b) with
  | .fault f => some (f.kind, f.after.response.map (·.status))
  | .next _ | .refused _ => none

def r (w : CmdWord) (a b : Wide256) : Option Wide256 := (outputs w a b).map (·.r)

def t (w : CmdWord) (a b : Wide256) : Option Bool := (outputs w a b).map (·.t)

/-! ## Every row decodes: words written out from the table's encodings, and the table's names -/

theorem test_rows_ADD :
    decode 0b0000000100000000#16 = .ok (.addU32 .full .b) ∧
    decode 0b0000000100001000#16 = .ok (.addU32 .u8 .b) ∧
    decode 0b0000000100010100#16 = .ok (.addU32 .u16 .a) ∧
    decode 0b0000000100011100#16 = .ok (.addU32 .u32 .a) ∧
    (Instr.addU32 .full .b).mnemonic = "ADD.u32" ∧
    decode 0b0000000100100000#16 = .ok (.addU64 .full .b) ∧
    decode 0b0000000100101000#16 = .ok (.addU64 .u8 .b) ∧
    decode 0b0000000100110100#16 = .ok (.addU64 .u16 .a) ∧
    decode 0b0000000100111100#16 = .ok (.addU64 .u32 .a) ∧
    (Instr.addU64 .full .b).mnemonic = "ADD.u64" ∧
    decode 0b0000000101000000#16 = .ok .addU128 ∧
    Instr.addU128.mnemonic = "ADD.u128" ∧
    decode 0b0000000101100000#16 = .ok .addU192 ∧
    Instr.addU192.mnemonic = "ADD.u192" ∧
    decode 0b0000000110000000#16 = .ok .addU256 ∧
    Instr.addU256.mnemonic = "ADD.u256" := by decide

theorem test_rows_SUB :
    decode 0b0000001000000000#16 = .ok (.subU32 .full .b) ∧
    decode 0b0000001000001000#16 = .ok (.subU32 .u8 .b) ∧
    decode 0b0000001000010100#16 = .ok (.subU32 .u16 .a) ∧
    decode 0b0000001000011100#16 = .ok (.subU32 .u32 .a) ∧
    (Instr.subU32 .full .b).mnemonic = "SUB.u32" ∧
    decode 0b0000001000100000#16 = .ok (.subU64 .full .b) ∧
    decode 0b0000001000101000#16 = .ok (.subU64 .u8 .b) ∧
    decode 0b0000001000110100#16 = .ok (.subU64 .u16 .a) ∧
    decode 0b0000001000111100#16 = .ok (.subU64 .u32 .a) ∧
    (Instr.subU64 .full .b).mnemonic = "SUB.u64" ∧
    decode 0b0000001001000000#16 = .ok .subU128 ∧
    Instr.subU128.mnemonic = "SUB.u128" ∧
    decode 0b0000001001100000#16 = .ok .subU192 ∧
    Instr.subU192.mnemonic = "SUB.u192" ∧
    decode 0b0000001010000000#16 = .ok .subU256 ∧
    Instr.subU256.mnemonic = "SUB.u256" := by decide

theorem test_rows_MUL :
    decode 0b0000001100000000#16 = .ok (.mulU32 .full .b) ∧
    decode 0b0000001100001000#16 = .ok (.mulU32 .u8 .b) ∧
    decode 0b0000001100010100#16 = .ok (.mulU32 .u16 .a) ∧
    decode 0b0000001100011100#16 = .ok (.mulU32 .u32 .a) ∧
    (Instr.mulU32 .full .b).mnemonic = "MUL.u32" ∧
    decode 0b0000001100100000#16 = .ok (.mulU64 .full .b) ∧
    decode 0b0000001100101000#16 = .ok (.mulU64 .u8 .b) ∧
    decode 0b0000001100110100#16 = .ok (.mulU64 .u16 .a) ∧
    decode 0b0000001100111100#16 = .ok (.mulU64 .u32 .a) ∧
    (Instr.mulU64 .full .b).mnemonic = "MUL.u64" ∧
    decode 0b0000001101000000#16 = .ok .mulU128 ∧
    Instr.mulU128.mnemonic = "MUL.u128" ∧
    decode 0b0000001101100000#16 = .ok .mulU192 ∧
    Instr.mulU192.mnemonic = "MUL.u192" ∧
    decode 0b0000001110000000#16 = .ok .mulU256 ∧
    Instr.mulU256.mnemonic = "MUL.u256" := by decide

theorem test_rows_DIV :
    decode 0b0000010000000000#16 = .ok (.divU32 .full .b) ∧
    decode 0b0000010000001000#16 = .ok (.divU32 .u8 .b) ∧
    decode 0b0000010000010100#16 = .ok (.divU32 .u16 .a) ∧
    decode 0b0000010000011100#16 = .ok (.divU32 .u32 .a) ∧
    (Instr.divU32 .full .b).mnemonic = "DIV.u32" ∧
    decode 0b0000010000100000#16 = .ok (.divU64 .full .b) ∧
    decode 0b0000010000101000#16 = .ok (.divU64 .u8 .b) ∧
    decode 0b0000010000110100#16 = .ok (.divU64 .u16 .a) ∧
    decode 0b0000010000111100#16 = .ok (.divU64 .u32 .a) ∧
    (Instr.divU64 .full .b).mnemonic = "DIV.u64" := by decide

theorem test_rows_XOR :
    decode 0b0000010100000000#16 = .ok (.xorU32 .full .b) ∧
    decode 0b0000010100001000#16 = .ok (.xorU32 .u8 .b) ∧
    decode 0b0000010100010100#16 = .ok (.xorU32 .u16 .a) ∧
    decode 0b0000010100011100#16 = .ok (.xorU32 .u32 .a) ∧
    (Instr.xorU32 .full .b).mnemonic = "XOR.u32" ∧
    decode 0b0000010100100000#16 = .ok (.xorU64 .full .b) ∧
    decode 0b0000010100101000#16 = .ok (.xorU64 .u8 .b) ∧
    decode 0b0000010100110100#16 = .ok (.xorU64 .u16 .a) ∧
    decode 0b0000010100111100#16 = .ok (.xorU64 .u32 .a) ∧
    (Instr.xorU64 .full .b).mnemonic = "XOR.u64" := by decide

theorem test_rows_EQ :
    decode 0b0000011000000000#16 = .ok .eqU32 ∧
    Instr.eqU32.mnemonic = "EQ.u32" ∧
    decode 0b0000011000100000#16 = .ok .eqU64 ∧
    Instr.eqU64.mnemonic = "EQ.u64" ∧
    decode 0b0000011001000000#16 = .ok .eqU128 ∧
    Instr.eqU128.mnemonic = "EQ.u128" ∧
    decode 0b0000011001100000#16 = .ok .eqU192 ∧
    Instr.eqU192.mnemonic = "EQ.u192" ∧
    decode 0b0000011010000000#16 = .ok .eqU256 ∧
    Instr.eqU256.mnemonic = "EQ.u256" := by decide

theorem test_rows_ULT :
    decode 0b0000011101000000#16 = .ok .ultU128 ∧
    Instr.ultU128.mnemonic = "ULT.u128" ∧
    decode 0b0000011101100000#16 = .ok .ultU192 ∧
    Instr.ultU192.mnemonic = "ULT.u192" ∧
    decode 0b0000011110000000#16 = .ok .ultU256 ∧
    Instr.ultU256.mnemonic = "ULT.u256" := by decide

theorem test_rows_DECODE :
    decode 0b0010000000000000#16 = .ok .decodeD32 ∧
    Instr.decodeD32.mnemonic = "DECODE.d32" ∧
    decode 0b0010000000100000#16 = .ok .decodeD64 ∧
    Instr.decodeD64.mnemonic = "DECODE.d64" ∧
    decode 0b0010000001000000#16 = .ok .decodeD128 ∧
    Instr.decodeD128.mnemonic = "DECODE.d128" ∧
    decode 0b0010000010000000#16 = .ok .decodeD256 ∧
    Instr.decodeD256.mnemonic = "DECODE.d256" := by decide

theorem test_rows_ISZERO :
    decode 0b0010000100000000#16 = .ok .isZeroD32 ∧
    Instr.isZeroD32.mnemonic = "ISZERO.d32" ∧
    decode 0b0010000100100000#16 = .ok .isZeroD64 ∧
    Instr.isZeroD64.mnemonic = "ISZERO.d64" ∧
    decode 0b0010000101000000#16 = .ok .isZeroD128 ∧
    Instr.isZeroD128.mnemonic = "ISZERO.d128" ∧
    decode 0b0010000110000000#16 = .ok .isZeroD256 ∧
    Instr.isZeroD256.mnemonic = "ISZERO.d256" := by decide

theorem test_rows_ISNAN :
    decode 0b0010001000000000#16 = .ok .isNanD32 ∧
    Instr.isNanD32.mnemonic = "ISNAN.d32" ∧
    decode 0b0010001000100000#16 = .ok .isNanD64 ∧
    Instr.isNanD64.mnemonic = "ISNAN.d64" ∧
    decode 0b0010001001000000#16 = .ok .isNanD128 ∧
    Instr.isNanD128.mnemonic = "ISNAN.d128" ∧
    decode 0b0010001010000000#16 = .ok .isNanD256 ∧
    Instr.isNanD256.mnemonic = "ISNAN.d256" := by decide

theorem test_rows_ISQNAN :
    decode 0b0010001100000000#16 = .ok .isQNanD32 ∧
    Instr.isQNanD32.mnemonic = "ISQNAN.d32" ∧
    decode 0b0010001100100000#16 = .ok .isQNanD64 ∧
    Instr.isQNanD64.mnemonic = "ISQNAN.d64" ∧
    decode 0b0010001101000000#16 = .ok .isQNanD128 ∧
    Instr.isQNanD128.mnemonic = "ISQNAN.d128" ∧
    decode 0b0010001110000000#16 = .ok .isQNanD256 ∧
    Instr.isQNanD256.mnemonic = "ISQNAN.d256" := by decide

theorem test_rows_ISSNAN :
    decode 0b0010010000000000#16 = .ok .isSNanD32 ∧
    Instr.isSNanD32.mnemonic = "ISSNAN.d32" ∧
    decode 0b0010010000100000#16 = .ok .isSNanD64 ∧
    Instr.isSNanD64.mnemonic = "ISSNAN.d64" ∧
    decode 0b0010010001000000#16 = .ok .isSNanD128 ∧
    Instr.isSNanD128.mnemonic = "ISSNAN.d128" ∧
    decode 0b0010010010000000#16 = .ok .isSNanD256 ∧
    Instr.isSNanD256.mnemonic = "ISSNAN.d256" := by decide

theorem test_rows_ISINF :
    decode 0b0010010100000000#16 = .ok .isInfD32 ∧
    Instr.isInfD32.mnemonic = "ISINF.d32" ∧
    decode 0b0010010100100000#16 = .ok .isInfD64 ∧
    Instr.isInfD64.mnemonic = "ISINF.d64" ∧
    decode 0b0010010101000000#16 = .ok .isInfD128 ∧
    Instr.isInfD128.mnemonic = "ISINF.d128" ∧
    decode 0b0010010110000000#16 = .ok .isInfD256 ∧
    Instr.isInfD256.mnemonic = "ISINF.d256" := by decide

theorem test_rows_ISFINITE :
    decode 0b0010011000000000#16 = .ok .isFiniteD32 ∧
    Instr.isFiniteD32.mnemonic = "ISFINITE.d32" ∧
    decode 0b0010011000100000#16 = .ok .isFiniteD64 ∧
    Instr.isFiniteD64.mnemonic = "ISFINITE.d64" ∧
    decode 0b0010011001000000#16 = .ok .isFiniteD128 ∧
    Instr.isFiniteD128.mnemonic = "ISFINITE.d128" ∧
    decode 0b0010011010000000#16 = .ok .isFiniteD256 ∧
    Instr.isFiniteD256.mnemonic = "ISFINITE.d256" := by decide

theorem test_rows_ISNORMAL :
    decode 0b0010011100000000#16 = .ok .isNormalD32 ∧
    Instr.isNormalD32.mnemonic = "ISNORMAL.d32" ∧
    decode 0b0010011100100000#16 = .ok .isNormalD64 ∧
    Instr.isNormalD64.mnemonic = "ISNORMAL.d64" ∧
    decode 0b0010011101000000#16 = .ok .isNormalD128 ∧
    Instr.isNormalD128.mnemonic = "ISNORMAL.d128" ∧
    decode 0b0010011110000000#16 = .ok .isNormalD256 ∧
    Instr.isNormalD256.mnemonic = "ISNORMAL.d256" := by decide

theorem test_rows_ZERO :
    decode 0b0011000000000000#16 = .ok .zeroD32 ∧
    Instr.zeroD32.mnemonic = "ZERO.d32" ∧
    decode 0b0011000000100000#16 = .ok .zeroD64 ∧
    Instr.zeroD64.mnemonic = "ZERO.d64" ∧
    decode 0b0011000001000000#16 = .ok .zeroD128 ∧
    Instr.zeroD128.mnemonic = "ZERO.d128" ∧
    decode 0b0011000010000000#16 = .ok .zeroD256 ∧
    Instr.zeroD256.mnemonic = "ZERO.d256" := by decide

theorem test_rows_MZERO :
    decode 0b0011000100000000#16 = .ok .mZeroD32 ∧
    Instr.mZeroD32.mnemonic = "MZERO.d32" ∧
    decode 0b0011000100100000#16 = .ok .mZeroD64 ∧
    Instr.mZeroD64.mnemonic = "MZERO.d64" ∧
    decode 0b0011000101000000#16 = .ok .mZeroD128 ∧
    Instr.mZeroD128.mnemonic = "MZERO.d128" ∧
    decode 0b0011000110000000#16 = .ok .mZeroD256 ∧
    Instr.mZeroD256.mnemonic = "MZERO.d256" := by decide

theorem test_rows_INF :
    decode 0b0011001000000000#16 = .ok .infD32 ∧
    Instr.infD32.mnemonic = "INF.d32" ∧
    decode 0b0011001000100000#16 = .ok .infD64 ∧
    Instr.infD64.mnemonic = "INF.d64" ∧
    decode 0b0011001001000000#16 = .ok .infD128 ∧
    Instr.infD128.mnemonic = "INF.d128" ∧
    decode 0b0011001010000000#16 = .ok .infD256 ∧
    Instr.infD256.mnemonic = "INF.d256" := by decide

theorem test_rows_MINF :
    decode 0b0011001100000000#16 = .ok .mInfD32 ∧
    Instr.mInfD32.mnemonic = "MINF.d32" ∧
    decode 0b0011001100100000#16 = .ok .mInfD64 ∧
    Instr.mInfD64.mnemonic = "MINF.d64" ∧
    decode 0b0011001101000000#16 = .ok .mInfD128 ∧
    Instr.mInfD128.mnemonic = "MINF.d128" ∧
    decode 0b0011001110000000#16 = .ok .mInfD256 ∧
    Instr.mInfD256.mnemonic = "MINF.d256" := by decide

theorem test_rows_QNAN :
    decode 0b0011010000000000#16 = .ok .qNanD32 ∧
    Instr.qNanD32.mnemonic = "QNAN.d32" ∧
    decode 0b0011010000100000#16 = .ok .qNanD64 ∧
    Instr.qNanD64.mnemonic = "QNAN.d64" ∧
    decode 0b0011010001000000#16 = .ok .qNanD128 ∧
    Instr.qNanD128.mnemonic = "QNAN.d128" ∧
    decode 0b0011010010000000#16 = .ok .qNanD256 ∧
    Instr.qNanD256.mnemonic = "QNAN.d256" := by decide

theorem test_rows_MQNAN :
    decode 0b0011010100000000#16 = .ok .mQNanD32 ∧
    Instr.mQNanD32.mnemonic = "MQNAN.d32" ∧
    decode 0b0011010100100000#16 = .ok .mQNanD64 ∧
    Instr.mQNanD64.mnemonic = "MQNAN.d64" ∧
    decode 0b0011010101000000#16 = .ok .mQNanD128 ∧
    Instr.mQNanD128.mnemonic = "MQNAN.d128" ∧
    decode 0b0011010110000000#16 = .ok .mQNanD256 ∧
    Instr.mQNanD256.mnemonic = "MQNAN.d256" := by decide

theorem test_rows_SNAN :
    decode 0b0011011000000000#16 = .ok .sNanD32 ∧
    Instr.sNanD32.mnemonic = "SNAN.d32" ∧
    decode 0b0011011000100000#16 = .ok .sNanD64 ∧
    Instr.sNanD64.mnemonic = "SNAN.d64" ∧
    decode 0b0011011001000000#16 = .ok .sNanD128 ∧
    Instr.sNanD128.mnemonic = "SNAN.d128" ∧
    decode 0b0011011010000000#16 = .ok .sNanD256 ∧
    Instr.sNanD256.mnemonic = "SNAN.d256" := by decide

theorem test_rows_MSNAN :
    decode 0b0011011100000000#16 = .ok .mSNanD32 ∧
    Instr.mSNanD32.mnemonic = "MSNAN.d32" ∧
    decode 0b0011011100100000#16 = .ok .mSNanD64 ∧
    Instr.mSNanD64.mnemonic = "MSNAN.d64" ∧
    decode 0b0011011101000000#16 = .ok .mSNanD128 ∧
    Instr.mSNanD128.mnemonic = "MSNAN.d128" ∧
    decode 0b0011011110000000#16 = .ok .mSNanD256 ∧
    Instr.mSNanD256.mnemonic = "MSNAN.d256" := by decide

theorem test_rows_MIN :
    decode 0b0011100000000000#16 = .ok .minD32 ∧
    Instr.minD32.mnemonic = "MIN.d32" ∧
    decode 0b0011100000100000#16 = .ok .minD64 ∧
    Instr.minD64.mnemonic = "MIN.d64" ∧
    decode 0b0011100001000000#16 = .ok .minD128 ∧
    Instr.minD128.mnemonic = "MIN.d128" ∧
    decode 0b0011100010000000#16 = .ok .minD256 ∧
    Instr.minD256.mnemonic = "MIN.d256" := by decide

theorem test_rows_MAX :
    decode 0b0011100100000000#16 = .ok .maxD32 ∧
    Instr.maxD32.mnemonic = "MAX.d32" ∧
    decode 0b0011100100100000#16 = .ok .maxD64 ∧
    Instr.maxD64.mnemonic = "MAX.d64" ∧
    decode 0b0011100101000000#16 = .ok .maxD128 ∧
    Instr.maxD128.mnemonic = "MAX.d128" ∧
    decode 0b0011100110000000#16 = .ok .maxD256 ∧
    Instr.maxD256.mnemonic = "MAX.d256" := by decide

/-! ## 95_test_vectors.md L2.1 and L2.2 -/

theorem test_ADD_u32 :
    r 0x0100 0xffffffff 0x1 = some 0x0 ∧
    r 0x0100 0x80000000 0x80000000 = some 0x0 ∧
    r 0x0100 0x100000001 0x1 = some 0x2 ∧
    r 0x0118 0x12345678 0xffffffff = some 0x12345677 := by decide

theorem test_ADD_u64 :
    r 0x0120 0xffffffffffffffff 0x1 = some 0x0 ∧
    r 0x0128 0xffffffffffffffff 0x1ff = some 0xfe ∧
    r 0x012C 0x1ff 0xffffffffffffffff = some 0xfe := by decide

theorem test_SUB_u32 :
    r 0x0200 0x0 0x1 = some 0xffffffff := by decide

theorem test_SUB_u64 :
    r 0x0220 0x0 0x1 = some 0xffffffffffffffff ∧
    r 0x0220 0x5 0x5 = some 0x0 ∧
    r 0x0230 0x5 0x10003 = some 0x2 ∧
    r 0x0234 0x12345 0x2346 = some 0xffffffffffffffff := by decide

theorem test_MUL_u32 :
    r 0x0300 0xffffffff 0xffffffff = some 0x1 := by decide

theorem test_MUL_u64 :
    r 0x0320 0x100000000 0x100000000 = some 0x0 ∧
    r 0x0320 0xffffffffffffffff 0xffffffffffffffff = some 0x1 ∧
    r 0x0338 0x100000000 0x1ffffffff = some 0xffffffff00000000 ∧
    r 0x0320 0x3039 0x0 = some 0x0 := by decide

theorem test_DIV_u32 :
    r 0x0400 0x7 0x2 = some 0x3 ∧
    r 0x0400 0x5 0x7 = some 0x0 ∧
    r 0x0400 0xffffffff 0x1 = some 0xffffffff ∧
    r 0x040C 0x1ff 0x10 = some 0xf := by decide

theorem test_DIV_u64 :
    r 0x0420 0xffffffffffffffff 0x2 = some 0x7fffffffffffffff ∧
    faultOf 0x0420 0xffffffffffffffff 0x0 = some (.divZero, some 2) ∧
    faultOf 0x0428 0xffffffffffffffff 0x100 = some (.divZero, some 2) ∧
    r 0x0428 0xab54a98ceb1f0ad2 0xa = some 0x112210f47de98115 := by decide

theorem test_XOR_u32 :
    r 0x0500 0xffffffff 0xf0f0f0f = some 0xf0f0f0f0 ∧
    r 0x0500 0xdeadbeef 0xdeadbeef = some 0x0 := by decide

theorem test_XOR_u64 :
    r 0x0530 0xffffffffffffffff 0xf0f0f = some 0xfffffffffffff0f0 := by decide

theorem test_EQ_u32 :
    t 0x0600 0x100000005 0x5 = some true := by decide

theorem test_EQ_u64 :
    t 0x0620 0x1 0x2 = some false ∧
    t 0x0620 0xffffffffffffffff 0xffffffffffffffff = some true ∧
    faultOf 0x0628 0x1 0x1 = some (.illegal, some 1) := by decide

theorem test_ADD_u128 :
    r 0x0140 0xffffffffffffffffffffffffffffffff 0x1 = some 0x0 ∧
    r 0x0140 0xffffffffffffffff 0x1 = some 0x10000000000000000 ∧
    r 0x0140 0x100000000000000000000000000000000000000000000000005 0x7 = some 0xc := by decide

theorem test_ADD_u192 :
    r 0x0160 0xffffffffffffffffffffffffffffffff 0x1 = some 0x100000000000000000000000000000000 := by decide

theorem test_ADD_u256 :
    r 0x0180 0xffffffffffffffffffffffffffffffffffffffffffffffffffffffffffffffff 0xffffffffffffffffffffffffffffffffffffffffffffffffffffffffffffffff = some 0xfffffffffffffffffffffffffffffffffffffffffffffffffffffffffffffffe := by decide

theorem test_SUB_u128 :
    r 0x0240 0x0 0x1 = some 0xffffffffffffffffffffffffffffffff := by decide

theorem test_SUB_u192 :
    r 0x0260 0x10000000000000000 0x1 = some 0xffffffffffffffff := by decide

theorem test_SUB_u256 :
    r 0x0280 0x1000000000000000000000000000000000000000000000000 0x1 = some 0xffffffffffffffffffffffffffffffffffffffffffffffff ∧
    r 0x0280 0x7 0x7 = some 0x0 := by decide

theorem test_MUL_u128 :
    r 0x0340 0x16345785d8a0000 0x16345785d8a0000 = some 0x1ed09bead87c0378d8e6400000000 ∧
    r 0x0340 0x10000000000000000 0x10000000000000000 = some 0x0 := by decide

theorem test_MUL_u192 :
    r 0x0360 0xffffffffffffffffffffffffffffffffffffffffffffffff 0xffffffffffffffffffffffffffffffffffffffffffffffff = some 0x1 := by decide

theorem test_MUL_u256 :
    r 0x0380 0x100000000000000000000000000000000 0x80000000000000000000000000000000 = some 0x8000000000000000000000000000000000000000000000000000000000000000 ∧
    r 0x0380 0x100000000000000000000000000000000 0x100000000000000000000000000000000 = some 0x0 := by decide

theorem test_EQ_u128 :
    t 0x0640 0x13ee9ca2e80fd3a807c0d8414c535392 0x13ee9ca2e80fd3a807c0d8414c535392 = some true ∧
    t 0x0640 0x100000000000000000000000000000009 0x9 = some true := by decide

theorem test_EQ_u192 :
    t 0x0660 0x100000000000000000000000000000000 0x0 = some false := by decide

theorem test_ULT_u128 :
    t 0x0740 0x1ed09bead87c0378d8e63ffffffff 0x1ed09bead87c0378d8e6400000000 = some true ∧
    t 0x0740 0x1ed09bead87c0378d8e6400000000 0x1ed09bead87c0378d8e63ffffffff = some false ∧
    t 0x0740 0x1ed09bead87c0378d8e6400000000 0x1ed09bead87c0378d8e6400000000 = some false := by decide

theorem test_ULT_u256 :
    t 0x0780 0x1000000000000000000000000000000000000000000000000 0xffffffffffffffffffffffffffffffffffffffffffffffff = some false := by decide

theorem test_ULT_u192 :
    t 0x0760 0xffffffffffffffffffffffffffffffff 0x100000000000000000000000000000000 = some true := by decide

/-! ## 95_test_vectors.md L2.3 -/

theorem test_DECODE_d32 : ∀ x ∈ ([
      (0x0, ⟨0x0, false, false, 0, 0, false⟩),
      (0x80000000, ⟨0x0, false, true, 0, 0, false⟩),
      (0x32800001, ⟨0x1, false, false, 0, 101, false⟩),
      (0x5fffffff, ⟨0x7fffff, false, false, 0, 191, false⟩),
      (0x77f8967f, ⟨0x98967f, false, false, 0, 191, false⟩),
      (0x60189680, ⟨0x989680, false, false, 0, 0, true⟩),
      (0x60000000, ⟨0x800000, false, false, 0, 0, false⟩),
      (0x78000000, ⟨0x0, false, false, 1, 0, false⟩),
      (0xfbffffff, ⟨0x0, false, true, 1, 0, false⟩),
      (0x7c000000, ⟨0x0, false, false, 2, 0, false⟩),
      (0x7c0000ab, ⟨0xab, false, false, 2, 0, false⟩),
      (0xfe000001, ⟨0x1, false, true, 3, 0, false⟩),
      (0x7dffffff, ⟨0x1ffffff, false, false, 2, 0, false⟩)] : List (Wide256 × Outputs)),
    outputs 0x2000 x.1 0 = some x.2 := by decide

theorem test_DECODE_d64 : ∀ x ∈ ([
      (0x77fb86f26fc0ffff, ⟨0x2386f26fc0ffff, false, false, 0, 767, false⟩),
      (0x31c38d7ea4c68000, ⟨0x38d7ea4c68000, false, false, 0, 398, false⟩),
      (0x1fffffffffffff, ⟨0x1fffffffffffff, false, false, 0, 0, false⟩),
      (0x77fb86f26fc10000, ⟨0x2386f26fc10000, false, false, 0, 767, true⟩),
      (0x7e00000000000000, ⟨0x0, false, false, 3, 0, false⟩)] : List (Wide256 × Outputs)),
    outputs 0x2020 x.1 0 = some x.2 := by decide

theorem test_DECODE_d128 : ∀ x ∈ ([
      (0xee80000000000000000000000000000, ⟨0x0, false, false, 0, 1908, false⟩),
      (0x13ee9ca2e80fd3a807c0d8414c535392, ⟨0x9ca2e80fd3a807c0d8414c535392, false, false, 0, 2551, false⟩),
      (0x3041ed09bead87c0378d8e63ffffffff, ⟨0x1ed09bead87c0378d8e63ffffffff, false, false, 0, 6176, false⟩),
      (0x3041ed09bead87c0378d8e6400000000, ⟨0x1ed09bead87c0378d8e6400000000, false, false, 0, 6176, true⟩),
      (0x60000000000000000000000000000000, ⟨0x20000000000000000000000000000, false, false, 0, 0, true⟩),
      (0x5fffed09bead87c0378d8e63ffffffff, ⟨0x1ed09bead87c0378d8e63ffffffff, false, false, 0, 12287, false⟩),
      (0xfe000000000000000000000000000000, ⟨0x0, false, true, 3, 0, false⟩)] : List (Wide256 × Outputs)),
    outputs 0x2040 x.1 0 = some x.2 := by decide

theorem test_DECODE_d256 : ∀ x ∈ ([
      (0x5fffff72ebad6ddc73c86d67c5faa71c245689c10795023fffffffffffffffff, ⟨0x172ebad6ddc73c86d67c5faa71c245689c10795023fffffffffffffffff, false, false, 0, 3145727, false⟩),
      (0x3000880000000000000000000000000000000000000000000000000000000001, ⟨0x1, false, false, 0, 1572932, false⟩),
      (0x600002c000000000000000000000000000000000000000000000000000000001, ⟨0x24000000000000000000000000000000000000000000000000000000001, false, false, 0, 5, true⟩),
      (0xf800000000000000000000000000000000000000000000000000000000000000, ⟨0x0, false, true, 1, 0, false⟩)] : List (Wide256 × Outputs)),
    outputs 0x2080 x.1 0 = some x.2 := by decide

/-! ## 95_test_vectors.md L2.4 -/

theorem test_ISZERO_d32 :
    t 0x2100 0x0 0 = some true ∧
    t 0x2100 0x80000000 0 = some true ∧
    t 0x2100 0x5f800000 0 = some true ∧
    t 0x2100 0x60189680 0 = some true ∧
    t 0x2100 0x77ffffff 0 = some true ∧
    t 0x2100 0x77f8967f 0 = some false ∧
    t 0x2100 0xf7f8967f 0 = some false ∧
    t 0x2100 0x3000001 0 = some false ∧
    t 0x2100 0x2800001 0 = some false ∧
    t 0x2100 0xf4240 0 = some false ∧
    t 0x2100 0xf423f 0 = some false ∧
    t 0x2100 0x1003039 0 = some false ∧
    t 0x2100 0x78000000 0 = some false ∧
    t 0x2100 0xf8000001 0 = some false ∧
    t 0x2100 0x7c000000 0 = some false ∧
    t 0x2100 0xfe000000 0 = some false ∧
    t 0x2100 0x7e0000ff 0 = some false := by decide

theorem test_ISNAN_d32 :
    t 0x2200 0x7c000000 0 = some true ∧
    t 0x2200 0xfe000000 0 = some true ∧
    t 0x2200 0x0 0 = some false ∧
    t 0x2200 0x80000000 0 = some false := by decide

theorem test_ISQNAN_d32 :
    t 0x2300 0x7c000000 0 = some true ∧
    t 0x2300 0x0 0 = some false ∧
    t 0x2300 0x80000000 0 = some false := by decide

theorem test_ISSNAN_d32 :
    t 0x2400 0xfe000000 0 = some true ∧
    t 0x2400 0x7e0000ff 0 = some true ∧
    t 0x2400 0x0 0 = some false ∧
    t 0x2400 0x80000000 0 = some false := by decide

theorem test_ISINF_d32 :
    t 0x2500 0x78000000 0 = some true ∧
    t 0x2500 0xf8000001 0 = some true ∧
    t 0x2500 0x0 0 = some false ∧
    t 0x2500 0x80000000 0 = some false := by decide

theorem test_ISFINITE_d32 :
    t 0x2600 0x0 0 = some true ∧
    t 0x2600 0x80000000 0 = some true ∧
    t 0x2600 0x78000000 0 = some false ∧
    t 0x2600 0xf8000001 0 = some false := by decide

theorem test_ISNORMAL_d32 :
    t 0x2700 0x0 0 = some false ∧
    t 0x2700 0x80000000 0 = some false ∧
    t 0x2700 0x5f800000 0 = some false ∧
    t 0x2700 0x60189680 0 = some false ∧
    t 0x2700 0x77ffffff 0 = some false ∧
    t 0x2700 0x77f8967f 0 = some true ∧
    t 0x2700 0xf7f8967f 0 = some true ∧
    t 0x2700 0x3000001 0 = some true ∧
    t 0x2700 0x2800001 0 = some false ∧
    t 0x2700 0xf4240 0 = some true ∧
    t 0x2700 0xf423f 0 = some false ∧
    t 0x2700 0x1003039 0 = some true ∧
    t 0x2700 0x78000000 0 = some false ∧
    t 0x2700 0xf8000001 0 = some false ∧
    t 0x2700 0x7c000000 0 = some false ∧
    t 0x2700 0xfe000000 0 = some false ∧
    t 0x2700 0x7e0000ff 0 = some false := by decide

theorem test_ISZERO_d64 :
    t 0x2120 0x7bffffffffffffff 0 = some false ∧
    t 0x2120 0x1c0000000000001 0 = some false ∧
    t 0x2120 0x1e0000000000001 0 = some false ∧
    t 0x2120 0x600386f26fc10000 0 = some true := by decide

theorem test_ISNAN_d64 :
    t 0x2220 0x7bffffffffffffff 0 = some false ∧
    t 0x2220 0x1c0000000000001 0 = some false := by decide

theorem test_ISQNAN_d64 :
    t 0x2320 0x7bffffffffffffff 0 = some false ∧
    t 0x2320 0x1c0000000000001 0 = some false := by decide

theorem test_ISSNAN_d64 :
    t 0x2420 0x7bffffffffffffff 0 = some false ∧
    t 0x2420 0x1c0000000000001 0 = some false := by decide

theorem test_ISINF_d64 :
    t 0x2520 0x7bffffffffffffff 0 = some true ∧
    t 0x2520 0x1c0000000000001 0 = some false ∧
    t 0x2520 0x1e0000000000001 0 = some false := by decide

theorem test_ISFINITE_d64 :
    t 0x2620 0x1c0000000000001 0 = some true ∧
    t 0x2620 0x1e0000000000001 0 = some true ∧
    t 0x2620 0x7bffffffffffffff 0 = some false := by decide

theorem test_ISNORMAL_d64 :
    t 0x2720 0x7bffffffffffffff 0 = some false ∧
    t 0x2720 0x1c0000000000001 0 = some false ∧
    t 0x2720 0x1e0000000000001 0 = some true ∧
    t 0x2720 0x600386f26fc10000 0 = some false := by decide

theorem test_ISZERO_d128 :
    t 0x2140 0xee80000000000000000000000000000 0 = some true ∧
    t 0x2140 0x13ee9ca2e80fd3a807c0d8414c535392 0 = some false ∧
    t 0x2140 0x3041ed09bead87c0378d8e6400000000 0 = some true ∧
    t 0x2140 0x6bb80000000000000000000000000005 0 = some true ∧
    t 0x2140 0x1ed09bead87c0378d8e63ffffffff 0 = some false ∧
    t 0x2140 0x400000000000000000000000000001 0 = some false := by decide

theorem test_ISNAN_d128 :
    t 0x2240 0xee80000000000000000000000000000 0 = some false ∧
    t 0x2240 0x13ee9ca2e80fd3a807c0d8414c535392 0 = some false := by decide

theorem test_ISQNAN_d128 :
    t 0x2340 0xee80000000000000000000000000000 0 = some false ∧
    t 0x2340 0x13ee9ca2e80fd3a807c0d8414c535392 0 = some false := by decide

theorem test_ISSNAN_d128 :
    t 0x2440 0xee80000000000000000000000000000 0 = some false ∧
    t 0x2440 0x13ee9ca2e80fd3a807c0d8414c535392 0 = some false := by decide

theorem test_ISINF_d128 :
    t 0x2540 0xee80000000000000000000000000000 0 = some false ∧
    t 0x2540 0x13ee9ca2e80fd3a807c0d8414c535392 0 = some false := by decide

theorem test_ISFINITE_d128 :
    t 0x2640 0xee80000000000000000000000000000 0 = some true ∧
    t 0x2640 0x13ee9ca2e80fd3a807c0d8414c535392 0 = some true := by decide

theorem test_ISNORMAL_d128 :
    t 0x2740 0xee80000000000000000000000000000 0 = some false ∧
    t 0x2740 0x13ee9ca2e80fd3a807c0d8414c535392 0 = some true ∧
    t 0x2740 0x3041ed09bead87c0378d8e6400000000 0 = some false ∧
    t 0x2740 0x6bb80000000000000000000000000005 0 = some false ∧
    t 0x2740 0x1ed09bead87c0378d8e63ffffffff 0 = some true ∧
    t 0x2740 0x400000000000000000000000000001 0 = some false := by decide

theorem test_ISZERO_d256 :
    t 0x2180 0x172ebad6ddc73c86d67c5faa71c245689c10795023fffffffffffffffff 0 = some false ∧
    t 0x2180 0x172ebad6ddc73c86d67c5faa71c245689c1079502400000000000000000 0 = some true ∧
    t 0x2180 0x7c00000000000000000000000000000000000000000000000000000000000000 0 = some false := by decide

theorem test_ISNAN_d256 :
    t 0x2280 0x7c00000000000000000000000000000000000000000000000000000000000000 0 = some true ∧
    t 0x2280 0x172ebad6ddc73c86d67c5faa71c245689c10795023fffffffffffffffff 0 = some false ∧
    t 0x2280 0x172ebad6ddc73c86d67c5faa71c245689c1079502400000000000000000 0 = some false := by decide

theorem test_ISQNAN_d256 :
    t 0x2380 0x7c00000000000000000000000000000000000000000000000000000000000000 0 = some true ∧
    t 0x2380 0x172ebad6ddc73c86d67c5faa71c245689c10795023fffffffffffffffff 0 = some false ∧
    t 0x2380 0x172ebad6ddc73c86d67c5faa71c245689c1079502400000000000000000 0 = some false := by decide

theorem test_ISSNAN_d256 :
    t 0x2480 0x172ebad6ddc73c86d67c5faa71c245689c10795023fffffffffffffffff 0 = some false ∧
    t 0x2480 0x172ebad6ddc73c86d67c5faa71c245689c1079502400000000000000000 0 = some false := by decide

theorem test_ISINF_d256 :
    t 0x2580 0x172ebad6ddc73c86d67c5faa71c245689c10795023fffffffffffffffff 0 = some false ∧
    t 0x2580 0x172ebad6ddc73c86d67c5faa71c245689c1079502400000000000000000 0 = some false := by decide

theorem test_ISFINITE_d256 :
    t 0x2680 0x172ebad6ddc73c86d67c5faa71c245689c10795023fffffffffffffffff 0 = some true ∧
    t 0x2680 0x172ebad6ddc73c86d67c5faa71c245689c1079502400000000000000000 0 = some true ∧
    t 0x2680 0x7c00000000000000000000000000000000000000000000000000000000000000 0 = some false := by decide

theorem test_ISNORMAL_d256 :
    t 0x2780 0x172ebad6ddc73c86d67c5faa71c245689c10795023fffffffffffffffff 0 = some true ∧
    t 0x2780 0x172ebad6ddc73c86d67c5faa71c245689c1079502400000000000000000 0 = some false ∧
    t 0x2780 0x7c00000000000000000000000000000000000000000000000000000000000000 0 = some false := by decide

/-! ## 44_constants.md R211: A and B hold anything -/

theorem test_ZERO :
    outputs 0x3000 5 7 = some (onlyR 0x0) ∧
    outputs 0x3020 5 7 = some (onlyR 0x0) ∧
    outputs 0x3040 5 7 = some (onlyR 0x0) ∧
    outputs 0x3080 5 7 = some (onlyR 0x0) := by decide

theorem test_MZERO :
    outputs 0x3100 5 7 = some (onlyR 0x80000000) ∧
    outputs 0x3120 5 7 = some (onlyR 0x8000000000000000) ∧
    outputs 0x3140 5 7 = some (onlyR 0x80000000000000000000000000000000) ∧
    outputs 0x3180 5 7 = some (onlyR 0x8000000000000000000000000000000000000000000000000000000000000000) := by decide

theorem test_INF :
    outputs 0x3200 5 7 = some (onlyR 0x78000000) ∧
    outputs 0x3220 5 7 = some (onlyR 0x7800000000000000) ∧
    outputs 0x3240 5 7 = some (onlyR 0x78000000000000000000000000000000) ∧
    outputs 0x3280 5 7 = some (onlyR 0x7800000000000000000000000000000000000000000000000000000000000000) := by decide

theorem test_MINF :
    outputs 0x3300 5 7 = some (onlyR 0xf8000000) ∧
    outputs 0x3320 5 7 = some (onlyR 0xf800000000000000) ∧
    outputs 0x3340 5 7 = some (onlyR 0xf8000000000000000000000000000000) ∧
    outputs 0x3380 5 7 = some (onlyR 0xf800000000000000000000000000000000000000000000000000000000000000) := by decide

theorem test_QNAN :
    outputs 0x3400 5 7 = some (onlyR 0x7c000000) ∧
    outputs 0x3420 5 7 = some (onlyR 0x7c00000000000000) ∧
    outputs 0x3440 5 7 = some (onlyR 0x7c000000000000000000000000000000) ∧
    outputs 0x3480 5 7 = some (onlyR 0x7c00000000000000000000000000000000000000000000000000000000000000) := by decide

theorem test_MQNAN :
    outputs 0x3500 5 7 = some (onlyR 0xfc000000) ∧
    outputs 0x3520 5 7 = some (onlyR 0xfc00000000000000) ∧
    outputs 0x3540 5 7 = some (onlyR 0xfc000000000000000000000000000000) ∧
    outputs 0x3580 5 7 = some (onlyR 0xfc00000000000000000000000000000000000000000000000000000000000000) := by decide

theorem test_SNAN :
    outputs 0x3600 5 7 = some (onlyR 0x7e000000) ∧
    outputs 0x3620 5 7 = some (onlyR 0x7e00000000000000) ∧
    outputs 0x3640 5 7 = some (onlyR 0x7e000000000000000000000000000000) ∧
    outputs 0x3680 5 7 = some (onlyR 0x7e00000000000000000000000000000000000000000000000000000000000000) := by decide

theorem test_MSNAN :
    outputs 0x3700 5 7 = some (onlyR 0xfe000000) ∧
    outputs 0x3720 5 7 = some (onlyR 0xfe00000000000000) ∧
    outputs 0x3740 5 7 = some (onlyR 0xfe000000000000000000000000000000) ∧
    outputs 0x3780 5 7 = some (onlyR 0xfe00000000000000000000000000000000000000000000000000000000000000) := by decide

theorem test_MAX :
    outputs 0x3900 5 7 = some (onlyR 0x77f8967f) ∧
    outputs 0x3920 5 7 = some (onlyR 0x77fb86f26fc0ffff) ∧
    outputs 0x3940 5 7 = some (onlyR 0x5fffed09bead87c0378d8e63ffffffff) ∧
    outputs 0x3980 5 7 = some (onlyR 0x5fffff72ebad6ddc73c86d67c5faa71c245689c10795023fffffffffffffffff) := by decide

theorem test_MIN :
    outputs 0x3800 5 7 = some (onlyR 0xf7f8967f) ∧
    outputs 0x3820 5 7 = some (onlyR 0xf7fb86f26fc0ffff) ∧
    outputs 0x3840 5 7 = some (onlyR 0xdfffed09bead87c0378d8e63ffffffff) ∧
    outputs 0x3880 5 7 = some (onlyR 0xdfffff72ebad6ddc73c86d67c5faa71c245689c10795023fffffffffffffffff) := by decide

/-! ## 95_test_vectors.md L2.6 -/

theorem test_illegal_words_1 :
    faultOf 0x0000 0x0 0x0 = some (.illegal, some 1) ∧
    faultOf 0x0800 0x0 0x0 = some (.illegal, some 1) ∧
    faultOf 0xFF00 0x0 0x0 = some (.illegal, some 1) ∧
    faultOf 0x1F20 0x0 0x0 = some (.illegal, some 1) ∧
    faultOf 0x01A0 0x0 0x0 = some (.illegal, some 1) ∧
    faultOf 0x01E0 0x0 0x0 = some (.illegal, some 1) ∧
    faultOf 0x0121 0x0 0x0 = some (.illegal, some 1) ∧
    faultOf 0x0122 0x0 0x0 = some (.illegal, some 1) := by decide

theorem test_illegal_words_2 :
    faultOf 0x0124 0x0 0x0 = some (.illegal, some 1) ∧
    faultOf 0x0148 0x0 0x0 = some (.illegal, some 1) ∧
    faultOf 0x0608 0x0 0x0 = some (.illegal, some 1) ∧
    faultOf 0x0440 0x5 0x1 = some (.illegal, some 1) ∧
    faultOf 0x0440 0x5 0x0 = some (.illegal, some 1) ∧
    faultOf 0x0540 0x0 0x0 = some (.illegal, some 1) ∧
    faultOf 0x0580 0x0 0x0 = some (.illegal, some 1) ∧
    faultOf 0x0700 0x0 0x0 = some (.illegal, some 1) := by decide

theorem test_illegal_words_3 :
    faultOf 0x0720 0x0 0x0 = some (.illegal, some 1) ∧
    faultOf 0x2060 0x0 0x0 = some (.illegal, some 1) ∧
    faultOf 0x2160 0x0 0x0 = some (.illegal, some 1) ∧
    faultOf 0x3960 0x0 0x0 = some (.illegal, some 1) ∧
    faultOf 0x2028 0x0 0x0 = some (.illegal, some 1) ∧
    faultOf 0x3004 0x0 0x0 = some (.illegal, some 1) ∧
    faultOf 0x0429 0x1 0x0 = some (.illegal, some 1) := by decide

theorem test_legal_words_for_contrast :
    r 0x0128 0x1 0x2 = some 0x3 ∧
    r 0x0160 0x1 0x2 = some 0x3 := by decide

/-- "exactly 159 are legal": the 25 operation codes of R61 with every low byte. -/
theorem test_legal_word_count :
    ((opcTable.map (·.1)).map fun o => (List.range 256).countP fun n =>
      (decode (BitVec.ofNat 16 (256 * o + n))).toOption.isSome).sum = 159 := by
  decide +kernel

/-! ## Well-formedness: NS = 1 with NW = 00 is refused in each row that has the fields (30_encoding.md R65) -/

theorem test_ill_formed_word_rows_refused :
    (∀ i ∈ [Instr.addU32 .full .a, .addU64 .full .a, .subU32 .full .a, .subU64 .full .a, .mulU32 .full .a,
      .mulU64 .full .a, .divU32 .full .a, .divU64 .full .a, .xorU32 .full .a, .xorU64 .full .a],
      i.wellFormed = false) ∧
    (Instr.addU32 .u8 .a).wellFormed = true ∧ (Instr.addU32 .full .b).wellFormed = true := by decide

/-- The word that such a term would have is refused by the decoder too. -/
theorem test_ill_formed_word_not_decoded :
    decode (encode (.addU64 .full .a)) = .error .narrowNotAllowed := by decide

/-! ## Assembler text: the examples of 30_encoding.md R69 -/

theorem test_assembly :
    (Instr.addU64 .full .b).assembly = "ADD.u64 A, B" ∧ Instr.ultU256.assembly = "ULT.u256 A, B" ∧
    Instr.isZeroD128.assembly = "ISZERO.d128 A" ∧ Instr.maxD64.assembly = "MAX.d64" ∧
    (Instr.addU64 .u8 .b).assembly = "ADD.u64 A, B:u8" ∧ (Instr.subU64 .u16 .a).assembly = "SUB.u64 A:u16, B" := by
  decide

/-- 30_encoding.md R70. -/
theorem test_pseudo_commands :
    encode (Instr.nanPseudo .d32) = 0x3400 ∧ encode (Instr.mNanPseudo .d64) = 0x3520 ∧
    encode (Instr.defaultPseudo .d256) = 0x3080 := by decide

/-! ## The machine -/

/-- After reset the first command placed is answered by the first step (70_reset_and_hazards.md R263). -/
theorem test_first_command_after_reset :
    decodeTableWord 16 0x0428 = some (.divU64 .u8 .b) ∧
    step (State.reset.withFetchWord 16 0x0428) = .next ⟨[], some ⟨0, some (onlyR 1)⟩⟩ := ⟨by decide, rfl⟩

/-- 95_test_vectors.md P4, steps 4 and 5: the command after a fault is answered as if the fault had not been. -/
theorem test_command_after_fault :
    State.portTrace 2 ⟨[⟨0x0428, 1, 0x100⟩, ⟨0x0420, 0xFFFFFFFFFFFFFFFF, 0x100⟩], none⟩ =
      [some ⟨2, none⟩, some ⟨0, some (onlyR 0x00FFFFFFFFFFFFFF)⟩] := by decide

/-- A meaning with no command to answer. -/
theorem test_no_command : exec .zeroD32 State.reset = .refused .noCommand := rfl

/-- 95_test_vectors.md V5: limbs in ascending significance. -/
theorem test_limb_order :
    ofLimbs [1, 2, 3, 4] = 0x0000000000000004000000000000000300000000000000020000000000000001 := by decide

/-- The two byte orders that the model has (log 13). -/
theorem test_host_bytes :
    limbToHostBytes .littleEndian 0x0102 = [2, 1, 0, 0, 0, 0, 0, 0] ∧
    limbToHostBytes .bigEndian 0x0102 = [0, 0, 0, 0, 0, 0, 1, 2] := by decide

/-! ## Witnesses: each hypothesis of the statements is met by a concrete input -/

theorem witness_DecodeEncodeRoundTrip : (Instr.addU64 .u8 .a).wellFormed = true := by decide

theorem witness_EncodeDecodeRoundTrip : decode 0x012C#16 = .ok (.addU64 .u8 .a) := by decide

theorem witness_NarrowPairLegal : NarrowPairLegal .u8 .a ∧ NarrowPairLegal .full .b :=
  ⟨fun _ => by decide, fun h => by cases h⟩

theorem witness_WordDivIsFloorOrFault :
    bPrime 64 .u8 .b ⟨0x0428, 1, 0x101⟩ ≠ 0 ∧ bPrime 64 .u8 .b ⟨0x0428, 1, 0x100⟩ = 0 := by decide

theorem witness_DecodeOfNan :
    top5Of .d32 (wordX .d32 ⟨0x2000, 0x7C000000, 0⟩) = 31 ∧ top5Of .d32 (wordX .d32 ⟨0x2000, 0xFFFFFFFF, 0⟩) = 31 := by
  decide

theorem witness_DecodeOfInfinite :
    top5Of .d32 (wordX .d32 ⟨0x2000, 0x78000000, 0⟩) = 30 ∧ top5Of .d32 (wordX .d32 ⟨0x2000, 0xFBFFFFFF, 0⟩) = 30 := by
  decide

/-- The largest Finite word in form 2 and the largest in form 1. -/
theorem witness_DecodeOfFinite :
    FiniteWord .d32 (wordX .d32 ⟨0x2000, 0x77FFFFFF, 0⟩) ∧ FiniteWord .d32 (wordX .d32 ⟨0x2000, 0x5FFFFFFF, 0⟩) := by
  unfold FiniteWord; decide

theorem witness_WideForm2IsNonCanonical :
    FiniteWord .d128 (wordX .d128 ⟨0x2040, 0x60000000000000000000000000000000, 0⟩) ∧
    Form2 .d128 (wordX .d128 ⟨0x2040, 0x60000000000000000000000000000000, 0⟩) := by
  unfold FiniteWord Form2; decide

/-- +1 and −1; two quiet NaNs; two infinities. -/
theorem witness_PredicatesIgnoreSignAndPayload :
    (0x32800001 % 2 ^ ((row .d32).k - 1) = 0xB2800001 % 2 ^ ((row .d32).k - 1)) ∧
    (top5Of .d32 0x7C000000 = 31 ∧ top5Of .d32 0x7DFFFFFF = 31 ∧ kindOf .d32 0x7C000000 = kindOf .d32 0x7DFFFFFF) ∧
    (top5Of .d32 0x78000000 = 30 ∧ top5Of .d32 0x7BFFFFFF = 30) := by decide

theorem witness_ConstructorResultAsOperand : (⟨0x2200, BitVec.ofNat 256 0x7C000000, 0⟩ : Command).a = 0x7C000000 := rfl

/-- The results of MAX.d64 and MIN.d64 as operands of DECODE.d64. -/
theorem witness_MaxAndMinAsOperands :
    (⟨0x2020, BitVec.ofNat 256 0x77FB86F26FC0FFFF, 0⟩ : Command).a = BitVec.ofNat 256 0x77FB86F26FC0FFFF ∧
    (⟨0x2020, BitVec.ofNat 256 0xF7FB86F26FC0FFFF, 0⟩ : Command).a = BitVec.ofNat 256 0xF7FB86F26FC0FFFF := ⟨rfl, rfl⟩

theorem witness_StepRunsTheDecodedCommand : decode (⟨0x0128, 1, 2⟩ : Command).cmd = .ok (.addU64 .u8 .b) := by decide

/-- DIV.u128 with B = 0. -/
theorem witness_IllegalWordFaults : ¬ LegalWord 0x0440 := by
  rintro ⟨⟨wcs, h, h'⟩, -⟩
  have e : ((0x0440 : CmdWord).extractLsb' 8 8).toNat = 4 ∧ ((0x0440 : CmdWord).extractLsb' 5 3).toNat = 2 := by decide
  rw [e.1] at h
  rw [e.2] at h'
  simp [opcTable] at h
  rcases h with rfl | ⟨_, _, h, _⟩ | ⟨_, _, h, _⟩
  · simp at h'
  · omega
  · omega

theorem witness_OnlyDivideCanFault : ∀ W nw ns, Instr.eqU32 ≠ .divWord W nw ns := by
  intro W nw ns; cases W <;> exact nofun

theorem witness_StepFaults :
    (∃ f, step (oneCommand 0x0420 5 0) = .fault f) ∧ ∃ f, step (oneCommand 0x0440 5 0) = .fault f :=
  ⟨⟨_, rfl⟩, ⟨_, rfl⟩⟩

theorem witness_StepAnswersNext : ∃ s, step (oneCommand 0x0420 5 1) = .next s := ⟨_, rfl⟩

/-- Operands that differ above bit 31 only, for a word of 32 bits and one of 256. -/
theorem witness_BitsAboveTheWidth :
    ((0x0100 : CmdWord).extractLsb' 5 3).toNat = [32, 64, 128, 192, 256].idxOf 32 ∧
    low 32 0x100000001 = low 32 0x1 ∧ (0x100000001 : Wide256) ≠ 0x1 ∧
    ((0x0180 : CmdWord).extractLsb' 5 3).toNat = [32, 64, 128, 192, 256].idxOf 256 := by decide

theorem witness_UnreadOperands :
    0x20 ≤ ((0x2000 : CmdWord).extractLsb' 8 8).toNat ∧ 0x30 ≤ ((0x3000 : CmdWord).extractLsb' 8 8).toNat := by decide

theorem witness_ResetFreeEvents : Event.reset ∉ [Event.accept ⟨0x0120, 1, 2⟩, .cycle, .cycle] := by decide

/-- A command accepted while others wait, and then as many cycles as are asked for. -/
theorem witness_EnoughCycles (n : Nat) :
    Event.reset ∉ Event.accept ⟨0x0120, 1, 2⟩ :: List.replicate n .cycle ∧
    n ≤ (Event.accept ⟨0x0120, 1, 2⟩ :: List.replicate n .cycle).count .cycle := by
  simp [List.mem_replicate]

end Sys2Proof.Tests
end

/-! ## The command word read back: what the decoder answers for a word written from its fields -/

namespace Sys2Proof

open Sys2Proof.Safety

/-- The fields of R60 do not overlap: joining them by `or` is adding them. -/
theorem cmdWord_eq_assembleWord (opc : Nat) {wc nw ns : Nat} (hwc : wc < 8) (hnw : nw < 4) (hns : ns < 2) :
    cmdWord opc wc nw ns 0 = assembleWord ⟨opc, wc, nw, ns⟩ := by
  have h2 : ns <<< 2 < 2 ^ 3 := by rw [Nat.shiftLeft_eq]; omega
  have h3 : nw <<< 3 + ns <<< 2 < 2 ^ 5 := by simp only [Nat.shiftLeft_eq]; omega
  have h5 : wc <<< 5 + (nw <<< 3 + ns <<< 2) < 2 ^ 8 := by simp only [Nat.shiftLeft_eq]; omega
  rw [cmdWord, Nat.or_zero, Nat.or_assoc, Nat.or_assoc, ← Nat.shiftLeft_add_eq_or_of_lt h2,
    ← Nat.shiftLeft_add_eq_or_of_lt h3, ← Nat.shiftLeft_add_eq_or_of_lt h5, assembleWord]
  simp only [Nat.shiftLeft_eq, Nat.reducePow, Nat.add_assoc]

/-- A word that is put together from fields in range is decoded by these fields. -/
theorem decode_assembleWord {opc wc nw ns : Nat} (hopc : opc < 256) (hwc : wc < 8) (hnw : nw < 4) (hns : ns < 2) :
    decode (assembleWord ⟨opc, wc, nw, ns⟩) = decodeFields opc wc nw ns := by
  have value : (assembleWord ⟨opc, wc, nw, ns⟩).toNat = opc * 256 + wc * 32 + nw * 8 + ns * 4 := by
    have fits : opc * 256 + wc * 32 + nw * 8 + ns * 4 < 2 ^ 16 := by omega
    rw [assembleWord, BitVec.toNat_ofNat]
    exact Nat.mod_eq_of_lt fits
  have hr : rsvField (assembleWord ⟨opc, wc, nw, ns⟩) = 0 := by rw [rsvField, value]; omega
  have ho : opcField (assembleWord ⟨opc, wc, nw, ns⟩) = opc := by rw [opcField, value]; omega
  have hw : wcField (assembleWord ⟨opc, wc, nw, ns⟩) = wc := by rw [wcField, value]; omega
  have hn : nwField (assembleWord ⟨opc, wc, nw, ns⟩) = nw := by rw [nwField, value]; omega
  have hs : nsField (assembleWord ⟨opc, wc, nw, ns⟩) = ns := by rw [nsField, value]; omega
  rw [decode, if_pos hr, ho, hw, hn, hs]

/-- The word of the claims, with RSV 00, is decoded by its fields. -/
theorem decode_cmdWord {opc wc nw ns : Nat} (hopc : opc < 256) (hwc : wc < 8) (hnw : nw < 4) (hns : ns < 2) :
    decode (cmdWord opc wc nw ns 0) = decodeFields opc wc nw ns := by
  rw [cmdWord_eq_assembleWord opc hwc hnw hns, decode_assembleWord hopc hwc hnw hns]

@[simp] theorem narrowWidthOf_code (nw : NarrowWidth) : narrowWidthOf nw.code = nw := by cases nw <;> rfl

@[simp] theorem narrowSideOf_code (ns : NarrowSide) : narrowSideOf ns.code = ns := by cases ns <;> rfl

theorem NarrowWidth.code_lt (nw : NarrowWidth) : nw.code < 4 := by cases nw <;> decide

theorem NarrowSide.code_lt (ns : NarrowSide) : ns.code < 2 := by cases ns <;> decide

theorem wordWc_lt (W : WordWidth) : wordWc W < 8 := by cases W <;> decide

/-- The decoder's check of NW and NS is the claim's condition on them (30_encoding.md R65). -/
theorem narrowLegal_iff (nw : NarrowWidth) (ns : NarrowSide) : narrowLegal nw ns = true ↔ NarrowPairLegal nw ns := by
  cases ns <;> simp [narrowLegal, NarrowPairLegal]

/-- A row with NW and NS gives back a legal pair from its codes. -/
theorem narrowRow_code {nw : NarrowWidth} {ns : NarrowSide} (row : NarrowWidth → NarrowSide → Instr)
    (h : NarrowPairLegal nw ns) : narrowRow nw.code ns.code row = .ok (row nw ns) := by
  rw [narrowRow, narrowWidthOf_code, narrowSideOf_code, if_pos ((narrowLegal_iff nw ns).2 h)]

theorem narrowWords_code {nw : NarrowWidth} {ns : NarrowSide} (W : WordWidth)
    (row : WordWidth → NarrowWidth → NarrowSide → Instr) (h : NarrowPairLegal nw ns) :
    narrowWords (wordWc W) nw.code ns.code row = .ok (row W nw ns) := by
  cases W <;> exact narrowRow_code _ h

/-- An operation code whose word rows are `row` encodes them as the claims say. -/
theorem encodedWord_of_decodeFields {opc : Nat} {row : WordWidth → NarrowWidth → NarrowSide → Instr}
    (hopc : opc < 256)
    (h : ∀ W nw ns, decodeFields opc (wordWc W) nw ns = narrowWords (wordWc W) nw ns row) : EncodedWord opc row := by
  intro W nw ns hl
  rw [decode_cmdWord hopc (wordWc_lt W) nw.code_lt ns.code_lt, h, narrowWords_code W row hl]

end Sys2Proof

/-! ## The word integer commands at both widths (40_word.md) -/

namespace Sys2Proof.Machine

open Sys2Proof.Safety

section
variable (W : WordWidth) (nw : NarrowWidth) (ns : NarrowSide)

theorem exec_addWord : exec (.addWord W nw ns) = answerWord W.width nw ns (· + ·) := by cases W <;> rfl

theorem exec_subWord : exec (.subWord W nw ns) = answerWord W.width nw ns (· - ·) := by cases W <;> rfl

theorem exec_mulWord : exec (.mulWord W nw ns) = answerWord W.width nw ns (· * ·) := by cases W <;> rfl

theorem exec_xorWord : exec (.xorWord W nw ns) = answerWord W.width nw ns (· ^^^ ·) := by cases W <;> rfl

theorem exec_eqWord : exec (.eqWord W) = answerEqual W.width := by cases W <;> rfl

end

/-- Subtraction as the rules write it: 2^W is added before the subtrahend is taken away (40_word.md R101). -/
theorem toNat_sub_eq_add_sub {W : Nat} (x y : BitVec W) : (x - y).toNat = (x.toNat + 2 ^ W - y.toNat) % 2 ^ W := by
  rw [BitVec.toNat_sub', Nat.add_sub_assoc y.isLt.le]

/-- EQ compares the low W bits as numbers: no bit above W takes part (40_word.md R106). -/
theorem equalBit_selectWidth (W : Nat) (x y : Wide256) :
    equalBit (selectWidth W x) (selectWidth W y) = decide (low W x = low W y) := by
  rw [equalBit, selectWidth_toNat, selectWidth_toNat, low, low, beq_eq_decide]

/-- Everything an EQ command does. -/
theorem answerEqual_cons (W : Nat) (c : Command) (rest : List Command) (p : Option Response) :
    answerEqual W ⟨c :: rest, p⟩ = .next (okState rest (onlyT (decide (low W c.a = low W c.b)))) := by
  rw [answerEqual, answerPredicate_cons, equalBit_selectWidth]
  rfl

/-- Settles O5: the sum of the promoted operands, its carry dropped by the width of the machine word. -/
theorem wordAddIsModular : Obligations.WordAddIsModular := by
  constructor
  · intro W nw ns c rest p
    rw [exec_addWord, answerWord_cons, BitVec.toNat_add, promotedA_toNat, promotedB_toNat]
  · exact encodedWord_of_decodeFields (by decide) fun W _ _ => by cases W <;> rfl

/-- Settles O6: the borrow is dropped because 2^W is added first. -/
theorem wordSubIsModular : Obligations.WordSubIsModular := by
  constructor
  · intro W nw ns c rest p
    rw [exec_subWord, answerWord_cons, toNat_sub_eq_add_sub, promotedA_toNat, promotedB_toNat]
  · exact encodedWord_of_decodeFields (by decide) fun W _ _ => by cases W <;> rfl

/-- Settles O7: the low W bits of the product of the promoted operands. -/
theorem wordMulIsLowProduct : Obligations.WordMulIsLowProduct := by
  constructor
  · intro W nw ns c rest p
    rw [exec_mulWord, answerWord_cons, BitVec.toNat_mul, promotedA_toNat, promotedB_toNat]
  · exact encodedWord_of_decodeFields (by decide) fun W _ _ => by cases W <;> rfl

/-- Settles O9: the exclusive-or of the promoted operands, as numbers. -/
theorem wordXorIsBitwise : Obligations.WordXorIsBitwise := by
  constructor
  · intro W nw ns c rest p
    rw [exec_xorWord, answerWord_cons, BitVec.toNat_xor, promotedA_toNat, promotedB_toNat]
  · exact encodedWord_of_decodeFields (by decide) fun W _ _ => by cases W <;> rfl

/-- Settles O10: T alone, from the low W bits. EQ takes no narrow operand, so NW and NS are 0 in its word. -/
theorem wordEqComparesMagnitudes : Obligations.WordEqComparesMagnitudes := by
  constructor
  · intro W c rest p
    rw [exec_eqWord, answerEqual_cons]
  · intro W
    rw [decode_cmdWord (by decide) (wordWc_lt W) (by decide) (by decide)]
    cases W <;> rfl

end Sys2Proof.Machine

/-! ## The wide integer commands (41_wide.md) -/

namespace Sys2Proof

open Sys2Proof.Safety

theorem wideWc_lt (W : WideWidth) : wideWc W < 8 := by cases W <;> decide

/-- An operation code whose wide rows are `row` encodes them as the claims say: no wide command takes a narrow
operand, so NW and NS are 0 in its word (30_encoding.md R65). -/
theorem encodedWide_of_decodeFields {opc : Nat} {row : WideWidth → Instr} (hopc : opc < 256)
    (h : ∀ W, decodeFields opc (wideWc W) 0 0 = .ok (row W)) : EncodedWide opc row := by
  intro W
  rw [decode_cmdWord hopc (wideWc_lt W) (by decide) (by decide), h]

end Sys2Proof

namespace Sys2Proof.Machine

open Sys2Proof.Safety

theorem exec_eqWide (W : WideWidth) : exec (.eqWide W) = answerEqual W.width := by cases W <;> rfl

/-- Two operands have the same limbs below W/64 exactly when these limbs agree one by one. -/
theorem limbsOf_eq_limbsOf_iff (W : WideWidth) (x y : Wide256) :
    limbsOf W x = limbsOf W y ↔
      ∀ i < W.width / 64, x.extractLsb' (64 * i) 64 = y.extractLsb' (64 * i) 64 := by
  simp only [limbsOf, List.map_inj_left, List.mem_range]

/-- Equality of the low W bits as numbers is equality of the limbs that hold them (41_wide.md R133). -/
theorem low_eq_low_iff_limbs (W : WideWidth) (x y : Wide256) :
    low W.width x = low W.width y ↔
      ∀ i < W.width / 64, x.extractLsb' (64 * i) 64 = y.extractLsb' (64 * i) 64 := by
  have sameLength : (limbsOf W x).length = (limbsOf W y).length := by rw [length_limbsOf, length_limbsOf]
  rw [← limbsValue_limbsOf, ← limbsValue_limbsOf, limbsValue_inj sameLength, limbsOf_eq_limbsOf_iff]

/-- Settles O16: T is the comparison of the low W bits as numbers, and a number of W bits is fixed by its limbs. -/
theorem wideEqIsLimbwise : Obligations.WideEqIsLimbwise := by
  constructor
  · intro W c rest p
    refine ⟨decide (low W.width c.a = low W.width c.b), ?_, ?_⟩
    · rw [exec_eqWide, answerEqual_cons]
    · rw [decide_eq_true_iff, low_eq_low_iff_limbs]
  · exact encodedWide_of_decodeFields (by decide) fun W => by cases W <;> rfl

end Sys2Proof.Machine

/-! ## The decimal class predicates (43_classify.md) -/

namespace Sys2Proof

open Sys2Proof.Safety

theorem decWc_lt (f : DecFormat) : decWc f < 8 := by cases f <;> decide

/-- An operation code whose decimal rows are `row` encodes them as the claims say: no decimal command takes a narrow
operand, so NW and NS are 0 in its word (30_encoding.md R65). -/
theorem encodedDec_of_decodeFields {opc : Nat} {row : DecFormat → Instr} (hopc : opc < 256)
    (h : ∀ f, decodeFields opc (decWc f) 0 0 = .ok (row f)) : EncodedDec opc row := by
  intro f
  rw [decode_cmdWord hopc (decWc_lt f) (by decide) (by decide), h]

end Sys2Proof

namespace Sys2Proof.Machine

open Sys2Proof.Safety

section
variable (f : DecFormat)

theorem exec_isNanDec : exec (.isNanDec f) = answerClass f isNanValue := by cases f <;> rfl

theorem exec_isQNanDec : exec (.isQNanDec f) = answerClass f isQNanValue := by cases f <;> rfl

theorem exec_isSNanDec : exec (.isSNanDec f) = answerClass f isSNanValue := by cases f <;> rfl

theorem exec_isInfDec : exec (.isInfDec f) = answerClass f isInfValue := by cases f <;> rfl

end

/-- A predicate whose test of the decoded view says `P` answers OK on every word, and its T says `P`. -/
theorem exec_predicate_iff {i : Instr} {f : DecFormat} {q : BidValue → Bool} {c : Command} {P : Prop}
    (hi : exec i = answerClass f q) (hq : q (decodeBid f (decimalOperand f c)).value = true ↔ P)
    (rest : List Command) (p : Option Response) :
    ∃ b, exec i ⟨c :: rest, p⟩ = .next (okState rest (onlyT b)) ∧ (b = true ↔ P) :=
  ⟨_, by rw [hi, answerClass_cons], hq⟩

/-! What each test of the decoded view reads of the word: one case per class of 30_encoding.md R82 and R83. -/

theorem top5Of_ne_nan_of_finiteWord {f : DecFormat} {x : Nat} (h : FiniteWord f x) : top5Of f x ≠ 31 :=
  Nat.ne_of_lt (Nat.lt_succ_of_lt h)

theorem top5Of_ne_inf_of_finiteWord {f : DecFormat} {x : Nat} (h : FiniteWord f x) : top5Of f x ≠ 30 :=
  Nat.ne_of_lt h

section
variable (f : DecFormat) (c : Command)

theorem isNanValue_decodeBid :
    isNanValue (decodeBid f (decimalOperand f c)).value = true ↔ top5Of f (wordX f c) = 31 := by
  obtain ⟨-, ⟨ht, -, hv⟩ | ⟨ht, -, hv⟩ | ⟨ht, hv⟩ | ⟨hfin, hv⟩⟩ := decodeBid_cases f c
  · simp [hv, isNanValue, ht]
  · simp [hv, isNanValue, ht]
  · simp [hv, isNanValue, ht]
  · simp [hv, isNanValue, top5Of_ne_nan_of_finiteWord hfin]

theorem isQNanValue_decodeBid :
    isQNanValue (decodeBid f (decimalOperand f c)).value = true ↔
      top5Of f (wordX f c) = 31 ∧ kindOf f (wordX f c) = 0 := by
  obtain ⟨-, ⟨-, hk, hv⟩ | ⟨ht, hk, hv⟩ | ⟨ht, hv⟩ | ⟨hfin, hv⟩⟩ := decodeBid_cases f c
  · simp [hv, isQNanValue, hk]
  · simp [hv, isQNanValue, ht, hk]
  · simp [hv, isQNanValue, ht]
  · simp [hv, isQNanValue, top5Of_ne_nan_of_finiteWord hfin]

theorem isSNanValue_decodeBid :
    isSNanValue (decodeBid f (decimalOperand f c)).value = true ↔
      top5Of f (wordX f c) = 31 ∧ kindOf f (wordX f c) = 1 := by
  obtain ⟨-, ⟨ht, hk, hv⟩ | ⟨-, hk, hv⟩ | ⟨ht, hv⟩ | ⟨hfin, hv⟩⟩ := decodeBid_cases f c
  · simp [hv, isSNanValue, ht, hk]
  · simp [hv, isSNanValue, hk]
  · simp [hv, isSNanValue, ht]
  · simp [hv, isSNanValue, top5Of_ne_nan_of_finiteWord hfin]

theorem isInfValue_decodeBid :
    isInfValue (decodeBid f (decimalOperand f c)).value = true ↔ top5Of f (wordX f c) = 30 := by
  obtain ⟨-, ⟨ht, -, hv⟩ | ⟨ht, -, hv⟩ | ⟨ht, hv⟩ | ⟨hfin, hv⟩⟩ := decodeBid_cases f c
  · simp [hv, isInfValue, ht]
  · simp [hv, isInfValue, ht]
  · simp [hv, isInfValue, ht]
  · simp [hv, isInfValue, top5Of_ne_inf_of_finiteWord hfin]

end

/-- Settles O31: the decoded view is a NaN of either kind exactly when top5 is 11111. -/
theorem isNanReadsTop5 : Obligations.IsNanReadsTop5 := by
  constructor
  · intro f c
    exact exec_predicate_iff (exec_isNanDec f) (isNanValue_decodeBid f c)
  · exact encodedDec_of_decodeFields (by decide) fun f => by cases f <;> rfl

/-- Settles O32: among the NaNs the kind bit 0 gives the quiet one. -/
theorem isQNanReadsKindBit : Obligations.IsQNanReadsKindBit := by
  constructor
  · intro f c
    exact exec_predicate_iff (exec_isQNanDec f) (isQNanValue_decodeBid f c)
  · exact encodedDec_of_decodeFields (by decide) fun f => by cases f <;> rfl

/-- Settles O33: among the NaNs the kind bit 1 gives the signaling one, and the answer is OK for it too. -/
theorem isSNanReadsKindBit : Obligations.IsSNanReadsKindBit := by
  constructor
  · intro f c
    exact exec_predicate_iff (exec_isSNanDec f) (isSNanValue_decodeBid f c)
  · exact encodedDec_of_decodeFields (by decide) fun f => by cases f <;> rfl

/-- Settles O34: the decoded view is infinite exactly when top5 is 11110. -/
theorem isInfReadsTop5 : Obligations.IsInfReadsTop5 := by
  constructor
  · intro f c
    exact exec_predicate_iff (exec_isInfDec f) (isInfValue_decodeBid f c)
  · exact encodedDec_of_decodeFields (by decide) fun f => by cases f <;> rfl

end Sys2Proof.Machine

/-! ## Which commands can fault (60_exceptions.md R235) -/

namespace Sys2Proof.Machine

open Sys2Proof.Safety

/-- The rows of DIV apart, a meaning tests nothing before it answers: its outputs are a total function of the command. -/
theorem exec_divWord_or_total (i : Instr) :
    (∃ W nw ns, i = .divWord W nw ns) ∨
      ∃ out : Command → Outputs, exec i = answer fun c => .ok (out c) := by
  cases i
  case divU32 nw ns => exact .inl ⟨.u32, nw, ns, rfl⟩
  case divU64 nw ns => exact .inl ⟨.u64, nw, ns, rfl⟩
  all_goals exact .inr ⟨_, rfl⟩

/-- Settles O45: a command that is not a DIV has outputs for every operand value, so its answer is OK. -/
theorem onlyDivideCanFault : Obligations.OnlyDivideCanFault := by
  intro i c rest p hdiv
  obtain ⟨W, nw, ns, hi⟩ | ⟨out, hexec⟩ := exec_divWord_or_total i
  · exact absurd hi (hdiv W nw ns)
  · have hanswer : exec i ⟨c :: rest, p⟩ = .next (okState rest (out c)) := by
      rw [hexec]
      exact answer_ok rfl
    exact ⟨out c, hanswer⟩

end Sys2Proof.Machine

/-! ## The command word, both ways (30_encoding.md, sections 1 and 2) -/

namespace Sys2Proof

open Sys2Proof.Safety

/-- The fields of a command fit the word. -/
theorem Instr.fields_lt (i : Instr) :
    i.fields.opc < 256 ∧ i.fields.wc < 8 ∧ i.fields.nw < 4 ∧ i.fields.ns < 2 := by
  cases i
  case addU32 nw ns | addU64 nw ns | subU32 nw ns | subU64 nw ns | mulU32 nw ns | mulU64 nw ns | divU32 nw ns
      | divU64 nw ns | xorU32 nw ns | xorU64 nw ns =>
    exact ⟨by simp [fields], by simp [fields], nw.code_lt, ns.code_lt⟩
  all_goals decide

/-- The operation codes give back the command that has these fields. -/
theorem decodeFields_fields {i : Instr} (h : i.wellFormed = true) :
    decodeFields i.fields.opc i.fields.wc i.fields.nw i.fields.ns = .ok i := by
  cases i
  case addU32 nw ns | addU64 nw ns | subU32 nw ns | subU64 nw ns | mulU32 nw ns | mulU64 nw ns | divU32 nw ns
      | divU64 nw ns | xorU32 nw ns | xorU64 nw ns =>
    exact narrowRow_code _ ((narrowLegal_iff nw ns).1 h)
  all_goals rfl

theorem decode_encode {i : Instr} (h : i.wellFormed = true) : decode (encode i) = .ok i := by
  obtain ⟨hopc, hwc, hnw, hns⟩ := i.fields_lt
  exact (decode_assembleWord hopc hwc hnw hns).trans (decodeFields_fields h)

/-- A word is put together again from its fields: RSV is the one field a command does not have. -/
theorem assembleWord_fields {w : CmdWord} (hrsv : rsvField w = 0) :
    assembleWord ⟨opcField w, wcField w, nwField w, nsField w⟩ = w := by
  have sum := toNat_eq_fields w
  rw [hrsv, Nat.add_zero] at sum
  rw [assembleWord, ← sum]
  exact BitVec.eq_of_toNat_eq (by simp)

/-- Settles O1: the fields survive the word, and each row of the table gives back its command. -/
theorem decodeEncodeRoundTrip : Obligations.DecodeEncodeRoundTrip := fun _ => decode_encode

/-- Settles O2: a word that decodes has RSV 00 and the other fields of its command, so it is that command's word. -/
theorem encodeDecodeRoundTrip : Obligations.EncodeDecodeRoundTrip := by
  intro w i h
  obtain ⟨hrsv, hwf, hfields⟩ := decode_reads h
  refine ⟨hwf, ?_⟩
  rw [encode, hfields, assembleWord_fields hrsv]

/-! ## The legal words are those that decode (30_encoding.md R75) -/

/-- R61 and R65 of the fields of a word whose RSV is 00. -/
def LegalFields (opc wc nw ns : Nat) : Prop :=
  (∃ wcs, (opc, wcs) ∈ opcTable ∧ wc ∈ wcs) ∧ (nw ≠ 0 → opc ∈ narrowOpcs ∧ wc ≤ 1) ∧ (ns ≠ 0 → nw ≠ 0)

/-- A word is legal exactly when its fields are and RSV is 00. -/
theorem legalWord_iff (w : CmdWord) :
    LegalWord w ↔ LegalFields (opcField w) (wcField w) (nwField w) (nsField w) ∧ rsvField w = 0 := by
  obtain ⟨hopc, hwc, hnw, hns, hrsv⟩ := extract_eq_fields w
  simp only [LegalWord, LegalFields, ← hopc, ← hwc, ← hnw, ← hns, ← hrsv, ne_eq, ← BitVec.toNat_inj,
    BitVec.toNat_zero, BitVec.ofNat_eq_ofNat, and_assoc]

theorem NarrowWidth.code_ne_zero {nw : NarrowWidth} (h : nw ≠ .full) : nw.code ≠ 0 := by
  cases nw
  case full => exact absurd rfl h
  all_goals decide

/-- The fields of a legal pair of NW and NS are legal in each row that has them. -/
theorem legalFields_narrow {opc wc : Nat} {nw : NarrowWidth} {ns : NarrowSide} (h : narrowLegal nw ns = true)
    (hrow : (opcTable.any fun e => e.1 == opc && e.2.contains wc) = true) (hopc : opc ∈ narrowOpcs) (hwc : wc ≤ 1) :
    LegalFields opc wc nw.code ns.code := by
  refine ⟨(mem_opcTable_iff opc wc).2 hrow, fun _ => ⟨hopc, hwc⟩, fun hns => ?_⟩
  cases ns
  · exact absurd rfl hns
  · exact NarrowWidth.code_ne_zero ((narrowLegal_iff nw .a).1 h rfl)

/-- The fields of a row without NW and NS are legal when the table has the row. -/
theorem legalFields_plain {opc wc : Nat} (hrow : (opcTable.any fun e => e.1 == opc && e.2.contains wc) = true) :
    LegalFields opc wc 0 0 :=
  ⟨(mem_opcTable_iff opc wc).2 hrow, fun h => absurd rfl h, fun h => absurd rfl h⟩

/-- Every command that can be written has legal fields. -/
theorem legalFields_of_wellFormed {i : Instr} (h : i.wellFormed = true) :
    LegalFields i.fields.opc i.fields.wc i.fields.nw i.fields.ns := by
  cases i
  case addU32 | addU64 | subU32 | subU64 | mulU32 | mulU64 | divU32 | divU64 | xorU32 | xorU64 =>
    exact legalFields_narrow h rfl (by simp [Instr.fields, narrowOpcs]) (by simp [Instr.fields])
  all_goals exact legalFields_plain (by decide)

/-! The rows of an operation answer for each width code that the table gives them. -/

theorem narrowRow_isOk {nw ns : Nat} (row : NarrowWidth → NarrowSide → Instr) (h : ns ≠ 0 → nw ≠ 0) :
    ∃ i, narrowRow nw ns row = .ok i := by
  have legal : narrowLegal (narrowWidthOf nw) (narrowSideOf ns) = true := by
    rcases ns with _ | ns
    · rfl
    · rcases nw with _ | _ | _ | nw
      · exact absurd rfl (h (Nat.succ_ne_zero ns))
      all_goals rfl
  exact ⟨_, if_pos legal⟩

theorem narrowWords_isOk {wc nw ns : Nat} (row : WordWidth → NarrowWidth → NarrowSide → Instr) (hwc : wc ≤ 1)
    (h : ns ≠ 0 → nw ≠ 0) : ∃ i, narrowWords wc nw ns row = .ok i := by
  obtain rfl | rfl := Nat.le_one_iff_eq_zero_or_eq_one.1 hwc
  · exact narrowRow_isOk (row .u32) h
  · exact narrowRow_isOk (row .u64) h

theorem plainWords_isOk {wc : Nat} (row : WordWidth → Instr) (hwc : wc ≤ 1) :
    ∃ i, plainWords wc 0 0 row = .ok i := by
  obtain rfl | rfl := Nat.le_one_iff_eq_zero_or_eq_one.1 hwc
  · exact ⟨row .u32, rfl⟩
  · exact ⟨row .u64, rfl⟩

theorem wides_isOk {wc : Nat} (row : WideWidth → Instr) (hwc : wc ∈ [2, 3, 4]) : ∃ i, wides wc 0 0 row = .ok i := by
  fin_cases hwc
  · exact ⟨row .u128, rfl⟩
  · exact ⟨row .u192, rfl⟩
  · exact ⟨row .u256, rfl⟩

theorem formats_isOk {wc : Nat} (row : DecFormat → Instr) (hwc : wc ∈ [0, 1, 2, 4]) :
    ∃ i, formats wc 0 0 row = .ok i := by
  fin_cases hwc
  · exact ⟨row .d32, rfl⟩
  · exact ⟨row .d64, rfl⟩
  · exact ⟨row .d128, rfl⟩
  · exact ⟨row .d256, rfl⟩

theorem mem_wides_of_not_le_one {wc : Nat} (hwc : wc ∈ [0, 1, 2, 3, 4]) (h : ¬ wc ≤ 1) : wc ∈ [2, 3, 4] := by
  simp only [List.mem_cons, List.not_mem_nil, or_false] at hwc ⊢
  omega

/-- ADD, SUB and MUL: word rows with NW and NS, and wide rows without. -/
theorem narrowWords_or_wides_isOk {wc nw ns : Nat} (words : WordWidth → NarrowWidth → NarrowSide → Instr)
    (wide : WideWidth → Instr) (hwc : wc ∈ [0, 1, 2, 3, 4]) (hnw : nw ≠ 0 → wc ≤ 1) (hns : ns ≠ 0 → nw ≠ 0) :
    ∃ i, (if wc ≤ 1 then narrowWords wc nw ns words else wides wc nw ns wide) = .ok i := by
  split
  · exact narrowWords_isOk words ‹_› hns
  · obtain rfl : nw = 0 := by_contra fun h => absurd (hnw h) ‹_›
    obtain rfl : ns = 0 := by_contra fun h => hns h rfl
    exact wides_isOk wide (mem_wides_of_not_le_one hwc ‹_›)

/-- EQ: word rows and wide rows, all without NW and NS. -/
theorem plainWords_or_wides_isOk {wc : Nat} (words : WordWidth → Instr) (wide : WideWidth → Instr)
    (hwc : wc ∈ [0, 1, 2, 3, 4]) :
    ∃ i, (if wc ≤ 1 then plainWords wc 0 0 words else wides wc 0 0 wide) = .ok i := by
  split
  · exact plainWords_isOk words ‹_›
  · exact wides_isOk wide (mem_wides_of_not_le_one hwc ‹_›)

/-- Legal fields decode. -/
theorem decodeFields_isOk {opc wc nw ns : Nat} (h : LegalFields opc wc nw ns) :
    ∃ i, decodeFields opc wc nw ns = .ok i := by
  obtain ⟨⟨wcs, hrow, hwc⟩, hnw, hns⟩ := h
  have narrow : nw ≠ 0 → wc ≤ 1 := fun h => (hnw h).2
  have plain : opc ∉ narrowOpcs → nw = 0 ∧ ns = 0 := fun hopc =>
    have hnw0 : nw = 0 := by_contra fun h => hopc (hnw h).1
    ⟨hnw0, by_contra fun h => hns h hnw0⟩
  fin_cases hrow
  -- ADD, SUB, MUL; DIV, XOR; then EQ, ULT and the decimal operations, which have no narrow operand
  · exact narrowWords_or_wides_isOk _ _ hwc narrow hns
  · exact narrowWords_or_wides_isOk _ _ hwc narrow hns
  · exact narrowWords_or_wides_isOk _ _ hwc narrow hns
  · exact narrowWords_isOk _ (by simpa [Nat.le_one_iff_eq_zero_or_eq_one] using hwc) hns
  · exact narrowWords_isOk _ (by simpa [Nat.le_one_iff_eq_zero_or_eq_one] using hwc) hns
  all_goals obtain ⟨rfl, rfl⟩ := plain (by decide)
  · exact plainWords_or_wides_isOk _ _ hwc
  · exact wides_isOk _ hwc
  all_goals exact formats_isOk _ hwc

/-- Settles O3: the decoder answers on every row of the table, and answers with commands of the table alone. -/
theorem legalWordsAreTheDecodedOnes : Obligations.LegalWordsAreTheDecodedOnes := by
  intro w
  rw [legalWord_iff]
  constructor
  · rintro ⟨i, h⟩
    obtain ⟨hrsv, hwf, hfields⟩ := decode_reads h
    have legal := legalFields_of_wellFormed hwf
    rw [hfields] at legal
    exact ⟨legal, hrsv⟩
  · rintro ⟨legal, hrsv⟩
    rw [decode, if_pos hrsv]
    exact decodeFields_isOk legal

/-- Settles O4: the decoder is run on the eight words. -/
theorem sampleWordsDecode : Obligations.SampleWordsDecode := by
  unfold Obligations.SampleWordsDecode
  decide

end Sys2Proof

/-! ## DIV, and the narrow forms of the word commands (40_word.md R103, R104; 30_encoding.md R65, R67) -/

namespace Sys2Proof.Machine

open Sys2Proof.Safety

theorem exec_divWord (W : WordWidth) (nw : NarrowWidth) (ns : NarrowSide) :
    exec (.divWord W nw ns) = answerDivide W.width nw ns := by cases W <;> rfl

theorem promotedB_eq_zero_iff (W : WordWidth) (nw : NarrowWidth) (ns : NarrowSide) (c : Command) :
    promotedB W.width nw ns c = 0 ↔ bPrime W.width nw ns c = 0 := by
  rw [← BitVec.toNat_inj, promotedB_toNat]
  rfl

theorem exec_divWord_of_ne_zero {W : WordWidth} {nw : NarrowWidth} {ns : NarrowSide} {c : Command}
    (h : bPrime W.width nw ns c ≠ 0) (rest : List Command) (p : Option Response) :
    exec (.divWord W nw ns) ⟨c :: rest, p⟩ =
      .next (okState rest (onlyR (aPrime W.width nw ns c / bPrime W.width nw ns c))) := by
  rw [exec_divWord, answerDivide_cons, if_neg (mt (promotedB_eq_zero_iff W nw ns c).1 h), BitVec.toNat_udiv,
    promotedA_toNat, promotedB_toNat]

theorem exec_divWord_of_eq_zero {W : WordWidth} {nw : NarrowWidth} {ns : NarrowSide} {c : Command}
    (h : bPrime W.width nw ns c = 0) (rest : List Command) (p : Option Response) :
    exec (.divWord W nw ns) ⟨c :: rest, p⟩ = .fault (.divZero (faultState rest 2)) := by
  rw [exec_divWord, answerDivide_cons, if_pos ((promotedB_eq_zero_iff W nw ns c).2 h), raiseFault_divZero]
  rfl

/-- Settles O8: the check and the quotient are both of the promoted divisor. -/
theorem wordDivIsFloorOrFault : Obligations.WordDivIsFloorOrFault := by
  refine ⟨?_, ?_, ?_⟩
  · intro W nw ns c rest p h
    exact exec_divWord_of_ne_zero h rest p
  · intro W nw ns c rest p h
    exact exec_divWord_of_eq_zero h rest p
  · exact encodedWord_of_decodeFields (by decide) fun W _ _ => by cases W <;> rfl

/-- A command with a symmetric operation answers the same when its operands and its narrow side are exchanged. -/
theorem answerWord_swap {W : Nat} {op : BitVec W → BitVec W → BitVec W} (hop : ∀ x y, op x y = op y x)
    (nw : NarrowWidth) (w : CmdWord) (a b : Wide256) (rest : List Command) (p : Option Response) :
    answerWord W nw .b op ⟨⟨w, a, b⟩ :: rest, p⟩ = answerWord W nw .a op ⟨⟨w, b, a⟩ :: rest, p⟩ := by
  have hA : promotedA W nw .a ⟨w, b, a⟩ = promotedB W nw .b ⟨w, a, b⟩ := rfl
  have hB : promotedB W nw .a ⟨w, b, a⟩ = promotedA W nw .b ⟨w, a, b⟩ := rfl
  rw [answerWord_cons, answerWord_cons, hA, hB, hop]

/-- Settles O11: promotion is the same on either side, and the three operations are symmetric. -/
theorem narrowSidesCommute : Obligations.NarrowSidesCommute := by
  intro W nw w a b rest p
  rw [exec_addWord, exec_addWord, exec_mulWord, exec_mulWord, exec_xorWord, exec_xorWord]
  exact ⟨answerWord_swap BitVec.add_comm nw w a b rest p, answerWord_swap BitVec.mul_comm nw w a b rest p,
    answerWord_swap BitVec.xor_comm nw w a b rest p⟩

/-- Narrowing to all the bits of the word is selecting the word. -/
theorem narrowed_of_width {W : Nat} {nw : NarrowWidth} (h : narrowBits W nw = W) (x : Wide256) :
    narrowed W nw x = selectWidth W x := by
  rw [narrowed, h, BitVec.setWidth_eq, selectWidth]

theorem promotedA_of_width {W : Nat} {nw : NarrowWidth} (h : narrowBits W nw = W) (ns : NarrowSide) (c : Command) :
    promotedA W nw ns c = selectWidth W c.a := by
  cases ns
  · rfl
  · exact narrowed_of_width h c.a

theorem promotedB_of_width {W : Nat} {nw : NarrowWidth} (h : narrowBits W nw = W) (ns : NarrowSide) (c : Command) :
    promotedB W nw ns c = selectWidth W c.b := by
  cases ns
  · exact narrowed_of_width h c.b
  · rfl

/-- At W = 32 the narrow width 32 gives the operands of the form without a narrow one, on either side. -/
theorem promoted_u32_eq_full (ns : NarrowSide) :
    promotedA 32 .u32 ns = promotedA 32 .full .b ∧ promotedB 32 .u32 ns = promotedB 32 .full .b := by
  constructor
  · funext c
    rw [promotedA_of_width rfl, promotedA_of_width rfl]
  · funext c
    rw [promotedB_of_width rfl, promotedB_of_width rfl]

theorem answerWord_u32_eq_full (ns : NarrowSide) (op : BitVec 32 → BitVec 32 → BitVec 32) :
    answerWord 32 .u32 ns op = answerWord 32 .full .b op := by
  obtain ⟨hA, hB⟩ := promoted_u32_eq_full ns
  rw [answerWord, answerWord, hA, hB]

theorem answerDivide_u32_eq_full (ns : NarrowSide) : answerDivide 32 .u32 ns = answerDivide 32 .full .b := by
  obtain ⟨hA, hB⟩ := promoted_u32_eq_full ns
  rw [answerDivide, answerDivide, hA, hB]

/-- Settles O12: both forms promote to the low 32 bits of the operands. -/
theorem fullNarrowWidthActsAsNone : Obligations.FullNarrowWidthActsAsNone := by
  intro ns s
  have word := answerWord_u32_eq_full ns
  exact ⟨congrFun (word _) s, congrFun (word _) s, congrFun (word _) s, congrFun (answerDivide_u32_eq_full ns) s,
    congrFun (word _) s⟩

end Sys2Proof.Machine

/-! ## Wide arithmetic and comparison, as numbers and limb by limb (41_wide.md R130 to R135) -/

namespace Sys2Proof.Machine

open Sys2Proof.Safety

section
variable (W : WideWidth)

theorem exec_addWide : exec (.addWide W) = answerWide W.width (· + ·) := by cases W <;> rfl

theorem exec_subWide : exec (.subWide W) = answerWide W.width (· - ·) := by cases W <;> rfl

theorem exec_mulWide : exec (.mulWide W) = answerWide W.width (· * ·) := by cases W <;> rfl

theorem exec_ultWide : exec (.ultWide W) = answerLess W.width := by cases W <;> rfl

end

/-- A selected operand is the low W bits as a number (30_encoding.md R66). -/
theorem selectWidth_toNat_eq_low (W : Nat) (x : Wide256) : (selectWidth W x).toNat = low W x := selectWidth_toNat W x

section
variable (W : WideWidth) (c : Command) (rest : List Command) (p : Option Response)

theorem exec_addWide_cons :
    exec (.addWide W) ⟨c :: rest, p⟩ =
      .next (okState rest (onlyR ((low W.width c.a + low W.width c.b) % 2 ^ W.width))) := by
  rw [exec_addWide, answerWide_cons, BitVec.toNat_add, selectWidth_toNat_eq_low, selectWidth_toNat_eq_low]

theorem exec_subWide_cons :
    exec (.subWide W) ⟨c :: rest, p⟩ =
      .next (okState rest (onlyR ((low W.width c.a + 2 ^ W.width - low W.width c.b) % 2 ^ W.width))) := by
  rw [exec_subWide, answerWide_cons, toNat_sub_eq_add_sub, selectWidth_toNat_eq_low, selectWidth_toNat_eq_low]

theorem exec_mulWide_cons :
    exec (.mulWide W) ⟨c :: rest, p⟩ =
      .next (okState rest (onlyR ((low W.width c.a * low W.width c.b) % 2 ^ W.width))) := by
  rw [exec_mulWide, answerWide_cons, BitVec.toNat_mul, selectWidth_toNat_eq_low, selectWidth_toNat_eq_low]

theorem exec_ultWide_cons :
    exec (.ultWide W) ⟨c :: rest, p⟩ = .next (okState rest (onlyT (decide (low W.width c.a < low W.width c.b)))) := by
  rw [exec_ultWide, answerLess, answerPredicate_cons, lessBit, selectWidth_toNat_eq_low, selectWidth_toNat_eq_low]
  rfl

end

/-- Settles O13: the sum of the selected operands, its carry dropped by the width of the machine integer. -/
theorem wideAddIsModular : Obligations.WideAddIsModular :=
  ⟨exec_addWide_cons, encodedWide_of_decodeFields (by decide) fun W => by cases W <;> rfl⟩

/-- Settles O14: the borrow is dropped because 2^W is added first. -/
theorem wideSubIsModular : Obligations.WideSubIsModular :=
  ⟨exec_subWide_cons, encodedWide_of_decodeFields (by decide) fun W => by cases W <;> rfl⟩

/-- Settles O15: the low W bits of the product of the selected operands. -/
theorem wideMulIsLowProduct : Obligations.WideMulIsLowProduct :=
  ⟨exec_mulWide_cons, encodedWide_of_decodeFields (by decide) fun W => by cases W <;> rfl⟩

/-- Settles O17: T alone, from the selected operands as numbers. -/
theorem wideUltComparesMagnitudes : Obligations.WideUltComparesMagnitudes :=
  ⟨exec_ultWide_cons, encodedWide_of_decodeFields (by decide) fun W => by cases W <;> rfl⟩

theorem length_limbsOf_eq (W : WideWidth) (x y : Wide256) : (limbsOf W x).length = (limbsOf W y).length := by
  rw [length_limbsOf, length_limbsOf]

/-- The limbs of an operand fill its width exactly. -/
theorem bits_limbsOf (W : WideWidth) (x : Wide256) : 64 * (limbsOf W x).length = W.width := by
  rw [length_limbsOf]
  cases W <;> rfl

/-- Settles O18: the carry chain adds the values of the limbs, and these are the low W bits. -/
theorem wideAddIsLimbCarryChain : Obligations.WideAddIsLimbCarryChain := by
  intro W c rest p
  rw [exec_addWide_cons, limbsValue_addLimbs 0 (length_limbsOf_eq W c.a c.b), bits_limbsOf, limbsValue_limbsOf,
    limbsValue_limbsOf, Nat.add_zero]

/-- Subtraction modulo M in integers is the subtraction of naturals with M added first. -/
theorem cast_add_sub_mod {x y M : Nat} (hy : y ≤ M) : (((x + M - y) % M : Nat) : Int) = ((x : Int) - y) % M := by
  rw [Int.natCast_mod, Nat.cast_sub (hy.trans (Nat.le_add_left M x)), Nat.cast_add, add_sub_right_comm,
    Int.add_emod_right]

theorem low_le (W : Nat) (x : Wide256) : low W x ≤ 2 ^ W := (Nat.mod_lt _ (Nat.two_pow_pos W)).le

/-- Settles O19: the borrow chain subtracts the values of the limbs in integers, and these are the low W bits. -/
theorem wideSubIsLimbBorrowChain : Obligations.WideSubIsLimbBorrowChain := by
  intro W c rest p
  have chain : limbsValue (subLimbs (limbsOf W c.a) (limbsOf W c.b) 0) =
      (low W.width c.a + 2 ^ W.width - low W.width c.b) % 2 ^ W.width := by
    rw [← Int.natCast_inj, limbsValue_subLimbs (.inl rfl) (length_limbsOf_eq W c.a c.b), bits_limbsOf,
      limbsValue_limbsOf, limbsValue_limbsOf, sub_zero, cast_add_sub_mod (low_le _ _), Nat.cast_pow, Nat.cast_ofNat]
  rw [exec_subWide_cons, chain]

/-- Settles O20: the first differing pair of limbs from the top decides as the values of the limbs do. -/
theorem wideUltIsLimbsFromTheTop : Obligations.WideUltIsLimbsFromTheTop := by
  intro W c rest p
  rw [exec_ultWide_cons, lessLimbs_reverse (length_limbsOf_eq W c.a c.b), limbsValue_limbsOf, limbsValue_limbsOf]

/-! ## An operand from its limbs (20_memory.md R41, R44) -/

/-- Appending is putting one number above the other. -/
theorem toNat_append_eq_add {m n : Nat} (x : BitVec m) (y : BitVec n) :
    (x ++ y).toNat = x.toNat * 2 ^ n + y.toNat := by
  rw [BitVec.toNat_append, ← Nat.shiftLeft_add_eq_or_of_lt y.isLt, Nat.shiftLeft_eq]

section
variable (a0 a1 a2 a3 : Limb)

/-- The value of an operand built from four limbs, limb 0 the least significant. -/
theorem ofLimbs_four_toNat :
    (ofLimbs [a0, a1, a2, a3]).toNat =
      a0.toNat + a1.toNat * 2 ^ 64 + a2.toNat * 2 ^ 128 + a3.toNat * 2 ^ 192 := by
  rw [ofLimbs_toNat (by simp)]
  simp only [limbsValue]
  ring

/-- The limbs appended, the most significant first, are the operand built from them. -/
theorem ofLimbs_four_eq_append : ofLimbs [a0, a1, a2, a3] = (a3 ++ a2) ++ (a1 ++ a0) := by
  apply BitVec.eq_of_toNat_eq
  rw [ofLimbs_four_toNat, toNat_append_eq_add, toNat_append_eq_add, toNat_append_eq_add]
  ring

end

/-- Settles O21: limb i of the operand is its quotient by 2^(64i) modulo 2^64, and the limbs below it are less than
that power. -/
theorem limbZeroIsLeastSignificant : Obligations.LimbZeroIsLeastSignificant := by
  intro a0 a1 a2 a3
  have value := ofLimbs_four_toNat a0 a1 a2 a3
  have h0 := a0.isLt
  have h1 := a1.isLt
  have h2 := a2.isLt
  have h3 := a3.isLt
  refine ⟨value, ?_, ?_, ?_, ?_, ofLimbs_four_eq_append a0 a1 a2 a3⟩
  all_goals
    apply BitVec.eq_of_toNat_eq
    rw [limb_toNat, value]
    omega

end Sys2Proof.Machine

/-! ## One step of the block, said once with its causes (60_exceptions.md, section 1) -/

namespace Sys2Proof.Machine

open Sys2Proof.Safety

theorem step_of_decode {c : Command} {i : Instr} (h : decode c.cmd = .ok i) (rest : List Command)
    (p : Option Response) : step ⟨c :: rest, p⟩ = exec i ⟨c :: rest, p⟩ := by
  simp only [step, h]

theorem step_nil (p : Option Response) : step ⟨[], p⟩ = .next ⟨[], none⟩ := rfl

theorem step_of_not_legalWord {c : Command} (h : ¬ LegalWord c.cmd) (rest : List Command) (p : Option Response) :
    step ⟨c :: rest, p⟩ = .fault (.illegal (faultState rest 1)) := by
  cases hd : decode c.cmd with
  | ok i => exact absurd ((legalWordsAreTheDecodedOnes c.cmd).1 ⟨i, hd⟩) h
  | error e => exact step_illegal hd

/-- Settles O43: `step` has no other arm for a word that decodes. -/
theorem stepRunsTheDecodedCommand : Obligations.StepRunsTheDecodedCommand := fun _ rest p _ h =>
  step_of_decode h rest p

/-- Settles O44: the word is checked before the operands are read. -/
theorem illegalWordFaultsWhateverTheOperands : Obligations.IllegalWordFaultsWhateverTheOperands :=
  fun w a b rest p h => step_of_not_legalWord (c := ⟨w, a, b⟩) h rest p

/-- Settles O48: the step of the idle block. -/
theorem idleBlockStaysIdle : Obligations.IdleBlockStaysIdle := step_nil

/-- The cause of DIVZERO: the command is a legal DIV, and its promoted divisor is 0 (60_exceptions.md R233). -/
def DividesByZero (c : Command) : Prop :=
  ∃ W nw ns, decode c.cmd = .ok (.divWord W nw ns) ∧ bPrime W.width nw ns c = 0

theorem step_of_dividesByZero {c : Command} (h : DividesByZero c) (rest : List Command) (p : Option Response) :
    step ⟨c :: rest, p⟩ = .fault (.divZero (faultState rest 2)) := by
  obtain ⟨W, nw, ns, hd, hzero⟩ := h
  rw [step_of_decode hd, exec_divWord_of_eq_zero hzero]

/-- Any other command answers OK, with outputs that are a function of the command. -/
theorem step_of_not_dividesByZero {c : Command} (hlegal : LegalWord c.cmd) (h : ¬ DividesByZero c) :
    ∃ o, ∀ rest p, step ⟨c :: rest, p⟩ = .next (okState rest o) := by
  obtain ⟨i, hd⟩ := (legalWordsAreTheDecodedOnes c.cmd).2 hlegal
  obtain ⟨W, nw, ns, rfl⟩ | ⟨out, hexec⟩ := exec_divWord_or_total i
  · have hdivisor : bPrime W.width nw ns c ≠ 0 := fun hzero => h ⟨W, nw, ns, hd, hzero⟩
    refine ⟨onlyR (aPrime W.width nw ns c / bPrime W.width nw ns c), fun rest p => ?_⟩
    rw [step_of_decode hd, exec_divWord_of_ne_zero hdivisor]
  · refine ⟨out c, fun rest p => ?_⟩
    rw [step_of_decode hd, hexec]
    exact answer_ok rfl

theorem DividesByZero.legalWord {c : Command} (h : DividesByZero c) : LegalWord c.cmd := by
  obtain ⟨W, nw, ns, hd, -⟩ := h
  exact (legalWordsAreTheDecodedOnes c.cmd).1 ⟨_, hd⟩

/-- Everything a step with a command can do, and why; each outcome is a function of the command, whatever is queued
behind it and whatever the port shows. -/
theorem step_cons_cases (c : Command) :
    (¬ LegalWord c.cmd ∧ ∀ rest p, step ⟨c :: rest, p⟩ = .fault (.illegal (faultState rest 1))) ∨
    (DividesByZero c ∧ ∀ rest p, step ⟨c :: rest, p⟩ = .fault (.divZero (faultState rest 2))) ∨
    (LegalWord c.cmd ∧ ¬ DividesByZero c ∧ ∃ o, ∀ rest p, step ⟨c :: rest, p⟩ = .next (okState rest o)) := by
  by_cases hlegal : LegalWord c.cmd
  · by_cases hzero : DividesByZero c
    · exact .inr (.inl ⟨hzero, step_of_dividesByZero hzero⟩)
    · exact .inr (.inr ⟨hlegal, hzero, step_of_not_dividesByZero hlegal hzero⟩)
  · exact .inl ⟨hlegal, step_of_not_legalWord hlegal⟩

/-- Settles O46: the three outcomes of a command exclude each other, and the idle block has none of the faults. -/
theorem stepFaultsExactlyWhenTheRulesSay : Obligations.StepFaultsExactlyWhenTheRulesSay := by
  rintro ⟨_ | ⟨c, rest⟩, p⟩
  · simp [step_nil]
  · have hillegal : (∃ c' rest', c :: rest = c' :: rest' ∧ ¬ LegalWord c'.cmd) ↔ ¬ LegalWord c.cmd := by simp
    have hdivZero : (∃ c' rest' W nw ns, c :: rest = c' :: rest' ∧
        decode c'.cmd = .ok (.divWord W nw ns) ∧ bPrime W.width nw ns c' = 0) ↔ DividesByZero c := by
      simp [DividesByZero]
    rw [hillegal, hdivZero]
    obtain ⟨hw, hs⟩ | ⟨hz, hs⟩ | ⟨hw, hz, o, hs⟩ := step_cons_cases c
    · have hz : ¬ DividesByZero c := fun h => hw h.legalWord
      simp [hs, hw, hz]
    · simp [hs, hz, hz.legalWord]
    · simp [hs, hw, hz]

/-- A step does not read the response port. -/
theorem step_response (q : List Command) (p p' : Option Response) : step ⟨q, p⟩ = step ⟨q, p'⟩ := by
  cases q with
  | nil => rfl
  | cons c rest => obtain ⟨-, h⟩ | ⟨-, h⟩ | ⟨-, -, o, h⟩ := step_cons_cases c <;> rw [h, h]

/-- The state that a fault carries: the younger commands, and STATUS 1 or 2 with no outputs (60_exceptions.md R231). -/
theorem after_of_step_fault {s : State} {f : Fault} (hf : step s = .fault f) :
    ∃ code, (code = 1 ∨ code = 2) ∧ f.after = faultState s.queue.tail code := by
  obtain ⟨_ | ⟨c, rest⟩, p⟩ := s
  · cases hf
  · obtain ⟨-, h⟩ | ⟨-, h⟩ | ⟨-, -, o, h⟩ := step_cons_cases c
    all_goals
      rw [h] at hf
      cases hf
    · exact ⟨1, .inl rfl, rfl⟩
    · exact ⟨2, .inr rfl, rfl⟩

/-- Settles O47: the state a fault carries is the younger commands and a STATUS, and the next step does not read the
STATUS. -/
theorem faultLeavesNothingBehind : Obligations.FaultLeavesNothingBehind := by
  intro c rest p f hf
  obtain ⟨code, hcode, hafter⟩ := after_of_step_fault hf
  have hne : code ≠ 0 := by rcases hcode with rfl | rfl <;> decide
  rw [hafter]
  exact ⟨rfl, ⟨code, rfl, hne⟩, step_response rest _ none⟩

/-! ## The invariant of the response port (10_state.md R24, R25) -/

theorem outputsOk_result (v : Wide256) : OutputsOk (.result v) := by simp [OutputsOk]

theorem outputsOk_predicate (b : Bool) : OutputsOk (.predicate b) := by
  refine ⟨by simp, by simp, by simp, by simp, ?_⟩
  rintro rfl
  rfl

theorem ebmax_le (f : DecFormat) : (row f).ebmax ≤ 3145727 := by cases f <;> decide

/-- DECODE: one case for each class. -/
theorem outputsOk_decoded (f : DecFormat) (c : Command) :
    OutputsOk ((decodeBid f (decimalOperand f c)).outputs f) := by
  obtain ⟨-, ⟨-, -, hv⟩ | ⟨-, -, hv⟩ | ⟨-, hv⟩ | ⟨hfin, hv⟩⟩ := decodeBid_cases f c
  · simp [OutputsOk, Decoded.outputs, hv, BidValue.code]
  · simp [OutputsOk, Decoded.outputs, hv, BidValue.code]
  · simp [OutputsOk, Decoded.outputs, hv, BidValue.code]
  · have hexp : (BitVec.ofNat 32 (expOf f (wordX f c))).toNat ≤ 3145727 := by
      rw [BitVec.toNat_ofNat]
      exact (Nat.mod_le _ _).trans ((expOf_le f _ hfin).trans (ebmax_le f))
    simpa [OutputsOk, Decoded.outputs, hv, BidValue.code] using hexp

theorem blockInv_ok {rest : List Command} {o : Outputs} (h : OutputsOk o) : BlockInv (okState rest o) := by
  rintro r ⟨⟩
  exact .inl ⟨rfl, o, rfl, h⟩

theorem blockInv_quiet (s : State) : BlockInv s.quiet := nofun

/-- A fault response has one of the two codes and no outputs. -/
theorem blockInv_fault {rest : List Command} {code : BitVec 2} (h : code = 1 ∨ code = 2) :
    BlockInv (faultState rest code) := by
  rintro r ⟨⟩
  exact .inr ⟨h, rfl⟩

/-- An answer whose outputs the rules allow leaves a response that they allow. -/
theorem blockInv_of_answer {f : Command → Except FaultKind Outputs} (hf : ∀ c o, f c = .ok o → OutputsOk o)
    {s s' : State} (h : answer f s = .next s') : BlockInv s' := by
  obtain ⟨-, e⟩ | ⟨c, rest, o, -, hc, e⟩ | ⟨c, rest, k, -, -, e⟩ := answer_cases f s
  · rw [e] at h
    cases h
  · rw [e] at h
    cases h
    exact blockInv_ok (hf c o hc)
  · obtain ⟨x, hx, -⟩ := raiseFault_eq k s
    rw [e, hx] at h
    cases h

/-- Each shape of a meaning keeps the invariant. -/
theorem Shape.blockInv {m : State → Host.Outcome State Fault Refusal} (hm : Shape m) {s s' : State}
    (h : m s = .next s') : BlockInv s' := by
  cases hm with
  | result g =>
    refine blockInv_of_answer ?_ h
    rintro c o ⟨⟩
    exact outputsOk_result _
  | predicate g =>
    refine blockInv_of_answer ?_ h
    rintro c o ⟨⟩
    exact outputsOk_predicate _
  | divide W nw ns =>
    refine blockInv_of_answer (fun c o hc => ?_) h
    split at hc <;> cases hc
    exact outputsOk_result _
  | decode f =>
    refine blockInv_of_answer ?_ h
    rintro c o ⟨⟩
    exact outputsOk_decoded f c

/-- Settles O50: a next state comes from the idle block or from a meaning, and a fault state carries a fault code. -/
theorem stepKeepsTheResponseInvariant : Obligations.StepKeepsTheResponseInvariant := by
  constructor
  · rintro ⟨_ | ⟨c, rest⟩, p⟩ s' h
    · cases h
      exact blockInv_quiet _
    · cases hd : decode c.cmd with
      | ok i =>
        rw [step_of_decode hd] at h
        exact (exec_shape i).blockInv h
      | error e =>
        rw [step_illegal hd] at h
        cases h
  · intro s f hf
    obtain ⟨code, hcode, hafter⟩ := after_of_step_fault hf
    rw [hafter]
    exact blockInv_fault hcode

/-- Settles O49: after reset there is no response to be allowed. -/
theorem resetIsIdleAndAllowed : Obligations.ResetIsIdleAndAllowed :=
  ⟨State.reset_queue, State.reset_response, nofun⟩

end Sys2Proof.Machine

/-! ## What a command reads of its operands (30_encoding.md R66) -/

namespace Sys2Proof.Machine

open Sys2Proof.Safety

/-- W of a width code (30_encoding.md R62). -/
def widthOfCode : Nat → Nat
  | 0 => 32
  | 1 => 64
  | 2 => 128
  | 3 => 192
  | _ => 256

/-- Two commands have the same inputs for an operation code and a width code: the low W bits of A, unless the
operation is a constructor, and of B, unless it is a decimal one. -/
structure SameInputs (opc wc : Nat) (c d : Command) : Prop where
  a : opc < 0x30 → selectWidth (widthOfCode wc) c.a = selectWidth (widthOfCode wc) d.a
  b : opc < 0x20 → selectWidth (widthOfCode wc) c.b = selectWidth (widthOfCode wc) d.b

/-- A narrow operand is read from the selected one. -/
theorem narrowed_eq_narrowed {W : Nat} (hW : 32 ≤ W) (nw : NarrowWidth) {x y : Wide256}
    (h : selectWidth W x = selectWidth W y) : narrowed W nw x = narrowed W nw y := by
  have narrow (z : Wide256) : narrowed W nw z = ((selectWidth W z).setWidth (narrowBits W nw)).setWidth W := by
    rw [narrowed, selectWidth, BitVec.setWidth_setWidth_of_le z (narrowBits_le nw hW)]
  rw [narrow, narrow, h]

section
variable {W : Nat} {c d : Command}

theorem promotedA_congr (hW : 32 ≤ W) (nw : NarrowWidth) (ns : NarrowSide)
    (h : selectWidth W c.a = selectWidth W d.a) : promotedA W nw ns c = promotedA W nw ns d := by
  cases ns
  · exact h
  · exact narrowed_eq_narrowed hW nw h

theorem promotedB_congr (hW : 32 ≤ W) (nw : NarrowWidth) (ns : NarrowSide)
    (h : selectWidth W c.b = selectWidth W d.b) : promotedB W nw ns c = promotedB W nw ns d := by
  cases ns
  · exact narrowed_eq_narrowed hW nw h
  · exact h

end

/-! The answers to two commands agree when what they read of the operands does. -/

section
variable {W : Nat} {f : DecFormat} {c d : Command} (rest : List Command) (p : Option Response)

theorem answerWord_congr (hW : 32 ≤ W) (nw : NarrowWidth) (ns : NarrowSide) (op : BitVec W → BitVec W → BitVec W)
    (ha : selectWidth W c.a = selectWidth W d.a) (hb : selectWidth W c.b = selectWidth W d.b) :
    answerWord W nw ns op ⟨c :: rest, p⟩ = answerWord W nw ns op ⟨d :: rest, p⟩ := by
  rw [answerWord_cons, answerWord_cons, promotedA_congr hW nw ns ha, promotedB_congr hW nw ns hb]

theorem answerDivide_congr (hW : 32 ≤ W) (nw : NarrowWidth) (ns : NarrowSide)
    (ha : selectWidth W c.a = selectWidth W d.a) (hb : selectWidth W c.b = selectWidth W d.b) :
    answerDivide W nw ns ⟨c :: rest, p⟩ = answerDivide W nw ns ⟨d :: rest, p⟩ := by
  rw [answerDivide_cons, answerDivide_cons, promotedA_congr hW nw ns ha, promotedB_congr hW nw ns hb,
    raiseFault_divZero, raiseFault_divZero]
  rfl

theorem answerWide_congr (op : BitVec W → BitVec W → BitVec W)
    (ha : selectWidth W c.a = selectWidth W d.a) (hb : selectWidth W c.b = selectWidth W d.b) :
    answerWide W op ⟨c :: rest, p⟩ = answerWide W op ⟨d :: rest, p⟩ := by
  rw [answerWide_cons, answerWide_cons, ha, hb]

theorem answerEqual_congr (ha : selectWidth W c.a = selectWidth W d.a) (hb : selectWidth W c.b = selectWidth W d.b) :
    answerEqual W ⟨c :: rest, p⟩ = answerEqual W ⟨d :: rest, p⟩ := by
  rw [answerEqual, answerPredicate_cons, answerPredicate_cons, ha, hb]

theorem answerLess_congr (ha : selectWidth W c.a = selectWidth W d.a) (hb : selectWidth W c.b = selectWidth W d.b) :
    answerLess W ⟨c :: rest, p⟩ = answerLess W ⟨d :: rest, p⟩ := by
  rw [answerLess, answerPredicate_cons, answerPredicate_cons, ha, hb]

theorem answerDecode_congr (ha : decimalOperand f c = decimalOperand f d) :
    answerDecode f ⟨c :: rest, p⟩ = answerDecode f ⟨d :: rest, p⟩ := by
  rw [answerDecode_cons, answerDecode_cons, ha]

theorem answerClass_congr (q : BidValue → Bool) (ha : decimalOperand f c = decimalOperand f d) :
    answerClass f q ⟨c :: rest, p⟩ = answerClass f q ⟨d :: rest, p⟩ := by
  rw [answerClass_cons, answerClass_cons, ha]

theorem answerConstant_congr (n : Nat) : answerConstant f n ⟨c :: rest, p⟩ = answerConstant f n ⟨d :: rest, p⟩ := by
  rw [answerConstant_cons, answerConstant_cons]

end

/-- A command answers the same to the same inputs: one case for each kind of answer. -/
theorem exec_congr (i : Instr) {c d : Command} (h : SameInputs i.fields.opc i.fields.wc c d) (rest : List Command)
    (p : Option Response) : exec i ⟨c :: rest, p⟩ = exec i ⟨d :: rest, p⟩ := by
  obtain ⟨hA, hB⟩ := h
  cases i
  case addU32 | addU64 | subU32 | subU64 | mulU32 | mulU64 | xorU32 | xorU64 =>
    exact answerWord_congr rest p (by decide) _ _ _ (hA (by simp [Instr.fields])) (hB (by simp [Instr.fields]))
  case divU32 | divU64 =>
    exact answerDivide_congr rest p (by decide) _ _ (hA (by simp [Instr.fields])) (hB (by simp [Instr.fields]))
  case addU128 | addU192 | addU256 | subU128 | subU192 | subU256 | mulU128 | mulU192 | mulU256 =>
    exact answerWide_congr rest p _ (hA (by decide)) (hB (by decide))
  case eqU32 | eqU64 | eqU128 | eqU192 | eqU256 =>
    exact answerEqual_congr rest p (hA (by decide)) (hB (by decide))
  case ultU128 | ultU192 | ultU256 => exact answerLess_congr rest p (hA (by decide)) (hB (by decide))
  case decodeD32 | decodeD64 | decodeD128 | decodeD256 => exact answerDecode_congr rest p (hA (by decide))
  case isZeroD32 | isZeroD64 | isZeroD128 | isZeroD256 | isNanD32 | isNanD64 | isNanD128 | isNanD256 | isQNanD32
      | isQNanD64 | isQNanD128 | isQNanD256 | isSNanD32 | isSNanD64 | isSNanD128 | isSNanD256 | isInfD32 | isInfD64
      | isInfD128 | isInfD256 | isFiniteD32 | isFiniteD64 | isFiniteD128 | isFiniteD256 | isNormalD32 | isNormalD64
      | isNormalD128 | isNormalD256 =>
    exact answerClass_congr rest p _ (hA (by decide))
  all_goals exact answerConstant_congr rest p _

/-- A step answers the same to one word with the same inputs. -/
theorem step_congr {w : CmdWord} {a b a' b' : Wide256}
    (h : SameInputs (opcField w) (wcField w) ⟨w, a, b⟩ ⟨w, a', b'⟩) (rest : List Command) (p : Option Response) :
    step ⟨⟨w, a, b⟩ :: rest, p⟩ = step ⟨⟨w, a', b'⟩ :: rest, p⟩ := by
  cases hd : decode w with
  | error e =>
    rw [step_illegal (c := ⟨w, a, b⟩) hd, step_illegal (c := ⟨w, a', b'⟩) hd, raiseFault_illegal, raiseFault_illegal]
    rfl
  | ok i =>
    obtain ⟨-, -, hfields⟩ := decode_reads hd
    rw [step_of_decode (c := ⟨w, a, b⟩) hd, step_of_decode (c := ⟨w, a', b'⟩) hd]
    refine exec_congr i ?_ rest p
    rw [hfields]
    exact h

/-- No step is refused, so what the block does next is a function of the step's outcome. -/
theorem serve_eq_of_step_eq {s t : State} (h : step s = step t) : s.serve = t.serve := by
  obtain ⟨hrefused, -⟩ := stepFaultsExactlyWhenTheRulesSay t
  rw [State.serve, State.serve, h]
  cases ht : step t with
  | next s' => rfl
  | fault f => rfl
  | refused r => exact absurd ht (hrefused r)

theorem selectWidth_eq_of_low_eq {W : Nat} {x y : Wide256} (h : low W x = low W y) :
    selectWidth W x = selectWidth W y :=
  BitVec.eq_of_toNat_eq (by rw [selectWidth_toNat_eq_low, selectWidth_toNat_eq_low, h])

theorem widthOfCode_idxOf {W : Nat} (hW : W ∈ [32, 64, 128, 192, 256]) :
    widthOfCode ([32, 64, 128, 192, 256].idxOf W) = W := by
  fin_cases hW <;> rfl

/-- Settles O52: no command reads its operands but through the selection of their low W bits. -/
theorem bitsAboveTheWidthAreIgnored : Obligations.BitsAboveTheWidthAreIgnored := by
  intro w a b a' b' rest p W hW hwc ha hb
  obtain ⟨-, hfield, -⟩ := extract_eq_fields w
  have hwidth : widthOfCode (wcField w) = W := by rw [← hfield, hwc, widthOfCode_idxOf hW]
  have same : SameInputs (opcField w) (wcField w) ⟨w, a, b⟩ ⟨w, a', b'⟩ := by
    constructor
    · rw [hwidth]
      exact fun _ => selectWidth_eq_of_low_eq ha
    · rw [hwidth]
      exact fun _ => selectWidth_eq_of_low_eq hb
  exact serve_eq_of_step_eq (step_congr same rest p)

/-- Settles O53: B is an input of the integer commands alone, and A of these and the decimal ones. -/
theorem unreadOperandsDoNotMatter : Obligations.UnreadOperandsDoNotMatter := by
  intro w a b a' b' rest p
  obtain ⟨hfield, -⟩ := extract_eq_fields w
  rw [hfield]
  constructor
  · intro hopc
    have same : SameInputs (opcField w) (wcField w) ⟨w, a, b⟩ ⟨w, a, b'⟩ :=
      ⟨fun _ => rfl, fun h => absurd hopc (by omega)⟩
    exact serve_eq_of_step_eq (step_congr same rest p)
  · intro hopc
    have same : SameInputs (opcField w) (wcField w) ⟨w, a, b⟩ ⟨w, a', b'⟩ :=
      ⟨fun h => absurd hopc (by omega), fun h => absurd hopc (by omega)⟩
    exact serve_eq_of_step_eq (step_congr same rest p)

end Sys2Proof.Machine

/-! ## The block at its port: one response for each command, in order (20_memory.md R45, R48) -/

namespace Sys2Proof.Machine

open Sys2Proof.Safety

theorem State.serve_of_next {s s' : State} (h : step s = .next s') : s.serve = s' := by rw [State.serve, h]

theorem State.serve_of_fault {s : State} {f : Fault} (h : step s = .fault f) : s.serve = f.after := by
  rw [State.serve, h]

/-- What a command gets alone, it gets behind any port and before any younger commands; and it is either an OK
response, from a next state, or a fault response, from a fault. -/
theorem step_responseTo (c : Command) :
    (∃ o, responseTo c = some ⟨0, some o⟩ ∧ ∀ rest p, step ⟨c :: rest, p⟩ = .next ⟨rest, responseTo c⟩) ∨
    (∃ code, responseTo c = some ⟨code, none⟩ ∧
      ∀ rest p, ∃ f, step ⟨c :: rest, p⟩ = .fault f ∧ f.after = ⟨rest, responseTo c⟩) := by
  have alone : responseTo c = (State.serve ⟨[c], none⟩).response := rfl
  obtain ⟨-, h⟩ | ⟨-, h⟩ | ⟨-, -, o, h⟩ := step_cons_cases c
  · have hr : responseTo c = some ⟨1, none⟩ := by rw [alone, State.serve_of_fault (h [] none)]; rfl
    exact .inr ⟨1, hr, fun rest p => ⟨_, h rest p, by rw [hr]; rfl⟩⟩
  · have hr : responseTo c = some ⟨2, none⟩ := by rw [alone, State.serve_of_fault (h [] none)]; rfl
    exact .inr ⟨2, hr, fun rest p => ⟨_, h rest p, by rw [hr]; rfl⟩⟩
  · have hr : responseTo c = some ⟨0, some o⟩ := by rw [alone, State.serve_of_next (h [] none)]; rfl
    exact .inl ⟨o, hr, fun rest p => by rw [h rest p, hr]; rfl⟩

theorem State.serve_nil (p : Option Response) : State.serve ⟨[], p⟩ = ⟨[], none⟩ :=
  State.serve_of_next (step_nil p)

/-- The block answers its oldest command with what that command gets alone. -/
theorem State.serve_cons (c : Command) (rest : List Command) (p : Option Response) :
    State.serve ⟨c :: rest, p⟩ = ⟨rest, responseTo c⟩ := by
  obtain ⟨o, -, h⟩ | ⟨code, -, h⟩ := step_responseTo c
  · exact State.serve_of_next (h rest p)
  · obtain ⟨f, hf, hafter⟩ := h rest p
    rw [State.serve_of_fault hf, hafter]

/-- Settles O51: the state after the answer is the younger commands and what the command gets alone. -/
theorem responseDependsOnItsCommandAlone : Obligations.ResponseDependsOnItsCommandAlone := by
  intro c rest p rest' p'
  rw [State.serve_cons, State.serve_cons]
  exact ⟨rfl, rfl⟩

theorem responseTo_isSome (c : Command) : (responseTo c).isSome = true := by
  obtain ⟨o, hr, -⟩ | ⟨code, hr, -⟩ := step_responseTo c <;> rw [hr] <;> rfl

/-- The queue is answered from its head, whatever the port shows. -/
theorem portTrace_eq_map (q : List Command) (p : Option Response) :
    State.portTrace q.length ⟨q, p⟩ = q.map responseTo := by
  induction q generalizing p with
  | nil => rfl
  | cons c rest ih => rw [List.length_cons, State.portTrace, State.serve_cons, ih, List.map_cons]

/-- Settles O54, by induction on the queue. -/
theorem responsesComeInAcceptanceOrder : Obligations.ResponsesComeInAcceptanceOrder :=
  fun s => ⟨portTrace_eq_map s.queue s.response, responseTo_isSome⟩

/-! ## Successful runs (60_exceptions.md R230) -/

theorem successful_zero (s : State) : Successful 0 s := ⟨s, rfl⟩

theorem run_succ_of_next {M : Host.Core} {n : Nat} {s s' : M.State} (h : M.step s = .next s') :
    M.run (n + 1) s = M.run n s' := by simp only [Host.Core.run, h]

theorem run_succ_of_fault {M : Host.Core} {n : Nat} {s : M.State} {f : M.Fault} (h : M.step s = .fault f) :
    M.run (n + 1) s = .fault f := by simp only [Host.Core.run, h]

theorem successful_succ_of_next {n : Nat} {s s' : State} (h : step s = .next s') :
    Successful (n + 1) s ↔ Successful n s' := by
  rw [Successful, Successful, run_succ_of_next (M := Sys2Proof.core) h]

theorem not_successful_succ_of_fault {n : Nat} {s : State} {f : Fault} (h : step s = .fault f) :
    ¬ Successful (n + 1) s := by
  rintro ⟨t, ht⟩
  rw [run_succ_of_fault (M := Sys2Proof.core) h] at ht
  cases ht

/-- A run of the whole queue, whatever the port shows. -/
theorem successful_iff (q : List Command) (p : Option Response) :
    Successful q.length ⟨q, p⟩ ↔ ∀ c ∈ q, ∃ o, responseTo c = some ⟨0, some o⟩ := by
  induction q generalizing p with
  | nil => simp [successful_zero]
  | cons c rest ih =>
    rw [List.length_cons, List.forall_mem_cons]
    obtain ⟨o, hr, h⟩ | ⟨code, hr, h⟩ := step_responseTo c
    · rw [successful_succ_of_next (h rest p), ih]
      exact ⟨fun hall => ⟨⟨o, hr⟩, hall⟩, fun hall => hall.2⟩
    · obtain ⟨f, hf, -⟩ := h rest p
      have hnot : ¬ ∃ o, responseTo c = some ⟨0, some o⟩ := by simp [hr]
      exact iff_of_false (not_successful_succ_of_fault hf) fun hall => hnot hall.1

/-- Settles O55: a run stops at the first command whose response is a fault. -/
theorem successfulRunIsAllOk : Obligations.SuccessfulRunIsAllOk := fun s => successful_iff s.queue s.response

end Sys2Proof.Machine

/-! ## Accepts, cycles and resets in any order (70_reset_and_hazards.md, section 3) -/

namespace Sys2Proof.Machine

open Sys2Proof.Safety

section
variable {m : Clocked} {c : Command} {rest : List Command}

/-! The three things a cycle can do. -/

theorem Clocked.cycle_idle (h : m.core.queue = []) : m.cycle.core = ⟨[], none⟩ := by
  obtain ⟨⟨q, p⟩, wait, served⟩ := m
  obtain rfl : q = [] := h
  exact State.serve_nil p

theorem Clocked.cycle_wait {n : Nat} (h : m.core.queue = c :: rest) (hw : m.wait = n + 1) :
    m.cycle = ⟨⟨c :: rest, none⟩, n, m.served⟩ := by
  obtain ⟨⟨q, p⟩, wait, served⟩ := m
  obtain rfl : q = c :: rest := h
  obtain rfl : wait = n + 1 := hw
  rfl

theorem Clocked.cycle_answer (h : m.core.queue = c :: rest) (hw : m.wait = 0) :
    m.cycle = ⟨⟨rest, responseTo c⟩, Config.latency (m.served + 1), m.served + 1⟩ := by
  obtain ⟨⟨q, p⟩, wait, served⟩ := m
  obtain rfl : q = c :: rest := h
  obtain rfl : wait = 0 := hw
  rw [← State.serve_cons c rest p]
  rfl

end

/-- What a command gets alone is one response. -/
theorem filterMap_responseTo_cons (c : Command) (q : List Command) :
    (c :: q).filterMap responseTo = (responseTo c).toList ++ q.filterMap responseTo := by
  obtain ⟨r, hr⟩ := Option.isSome_iff_exists.1 (responseTo_isSome c)
  rw [List.filterMap_cons_some hr, hr]
  rfl

/-- A cycle moves the response of the oldest command from what is still due to what is delivered. -/
theorem Clocked.cycle_conserves (m : Clocked) :
    m.cycle.core.response.toList ++ m.cycle.core.queue.filterMap responseTo =
      m.core.queue.filterMap responseTo := by
  cases hq : m.core.queue with
  | nil =>
    rw [Clocked.cycle_idle hq]
    rfl
  | cons c rest =>
    cases hw : m.wait with
    | zero => rw [Clocked.cycle_answer hq hw, filterMap_responseTo_cons]
    | succ n =>
      rw [Clocked.cycle_wait hq hw]
      rfl

/-- Delivered, then still due, is what was due and what is accepted: for any events but resets. -/
theorem Clocked.responses_conserve {es : List Event} (hes : Event.reset ∉ es) (m : Clocked) :
    m.responses es ++ (m.run es).core.queue.filterMap responseTo =
      (m.core.queue ++ acceptedBy es).filterMap responseTo := by
  induction es generalizing m with
  | nil => simp [Clocked.responses, Clocked.run, acceptedBy]
  | cons e es ih =>
    obtain ⟨he, hes⟩ := List.ne_and_not_mem_of_not_mem_cons hes
    rw [Clocked.responses, Clocked.run, List.append_assoc, ih hes]
    cases e with
    | accept c => simp [Clocked.delivered, Clocked.event, acceptedBy]
    | cycle =>
      rw [acceptedBy, List.filterMap_append, List.filterMap_append, ← Clocked.cycle_conserves m, List.append_assoc]
      rfl
    | reset => exact absurd rfl he

/-- Settles O56: each event keeps the sum of what is delivered and what is due. -/
theorem orderHoldsInEveryInterleaving : Obligations.OrderHoldsInEveryInterleaving :=
  fun m _ hes => m.responses_conserve hes

/-- Settles O58: after a reset nothing is due, so only what is accepted after it is answered. -/
theorem resetDropsCommandsInFlight : Obligations.ResetDropsCommandsInFlight :=
  fun m _ hes => ⟨rfl, rfl, (m.event .reset).responses_conserve hes⟩

/-! ## Progress -/

/-- The cycles that answer the commands `q`: each waits its LATENCY, from when it is the oldest, and the cycle that
answers it. -/
def cyclesToAnswer : List Command → Nat → Nat → Nat
  | [], _, _ => 0
  | _ :: rest, wait, served => wait + 1 + cyclesToAnswer rest (Config.latency (served + 1)) (served + 1)

/-- After so many cycles the commands `q` at the head of the queue are answered, whatever is queued behind them and
whatever is accepted meanwhile. -/
theorem Clocked.head_answered {es : List Event} (hes : Event.reset ∉ es) {m : Clocked} {q behind : List Command}
    (hq : m.core.queue = q ++ behind) (hn : cyclesToAnswer q m.wait m.served ≤ es.count .cycle) :
    q.map responseTo <+: (m.responses es).map some := by
  induction es generalizing m q behind with
  | nil =>
    cases q with
    | nil => exact List.nil_prefix
    | cons c rest => simp [cyclesToAnswer] at hn
  | cons e es ih =>
    obtain ⟨he, hfree⟩ := List.ne_and_not_mem_of_not_mem_cons hes
    rw [Clocked.responses]
    cases e with
    | accept c =>
      have hqueue : (m.event (.accept c)).core.queue = q ++ (behind ++ [c]) := by simp [Clocked.event, hq]
      have hbudget : cyclesToAnswer q m.wait m.served ≤ es.count .cycle := by simpa using hn
      exact ih hfree hqueue hbudget
    | cycle =>
      cases q with
      | nil => exact List.nil_prefix
      | cons c rest =>
        rw [List.count_cons_self, cyclesToAnswer] at hn
        have hevent : m.event .cycle = m.cycle := rfl
        have hdelivered : m.delivered .cycle = m.cycle.core.response.toList := rfl
        rw [hevent, hdelivered]
        cases hw : m.wait with
        | zero =>
          have hcycle := Clocked.cycle_answer hq hw
          have hbudget : cyclesToAnswer rest m.cycle.wait m.cycle.served ≤ es.count .cycle := by
            simp only [hcycle]
            omega
          have hrest := ih hfree (by rw [hcycle]; rfl) hbudget
          obtain ⟨r, hr⟩ := Option.isSome_iff_exists.1 (responseTo_isSome c)
          have hresponse : m.cycle.core.response = some r := by rw [hcycle, hr]
          rw [List.map_cons, hr, hresponse, Option.toList_some, List.singleton_append, List.map_cons,
            List.prefix_cons_inj]
          exact hrest
        | succ n =>
          have hcycle := Clocked.cycle_wait hq hw
          have hbudget : cyclesToAnswer (c :: rest) m.cycle.wait m.cycle.served ≤ es.count .cycle := by
            simp only [hcycle, cyclesToAnswer]
            omega
          have hresponse : m.cycle.core.response = none := by rw [hcycle]
          rw [hresponse, Option.toList_none, List.nil_append]
          exact ih hfree (by rw [hcycle]; rfl) hbudget
    | reset => exact absurd rfl he

theorem map_some_filterMap_responseTo (q : List Command) : (q.filterMap responseTo).map some = q.map responseTo := by
  induction q with
  | nil => rfl
  | cons c rest ih =>
    obtain ⟨r, hr⟩ := Option.isSome_iff_exists.1 (responseTo_isSome c)
    rw [List.filterMap_cons_some hr, List.map_cons, List.map_cons, ih, hr]

theorem length_filterMap_responseTo (q : List Command) : (q.filterMap responseTo).length = q.length := by
  simpa using congrArg List.length (map_some_filterMap_responseTo q)

theorem acceptedBy_cycles (n : Nat) : acceptedBy (List.replicate n .cycle) = [] := by
  induction n with
  | zero => rfl
  | succ n ih => rw [List.replicate_succ, acceptedBy, ih]

/-- Cycles alone leave nothing due once they have delivered as many responses as commands were queued. -/
theorem Clocked.queue_run_cycles {m : Clocked} {n : Nat}
    (h : m.core.queue.length ≤ (m.responses (List.replicate n .cycle)).length) :
    (m.run (List.replicate n .cycle)).core.queue = [] := by
  have conserve := m.responses_conserve (es := List.replicate n .cycle) (by simp [List.mem_replicate])
  rw [acceptedBy_cycles, List.append_nil] at conserve
  have lengths := congrArg List.length conserve
  rw [List.length_append, length_filterMap_responseTo, length_filterMap_responseTo] at lengths
  exact List.eq_nil_of_length_eq_zero (by omega)

/-- Settles O57: the number is the sum of the waits of the queued commands. -/
theorem everyCommandIsAnswered : Obligations.EveryCommandIsAnswered := by
  constructor
  · intro m
    exact ⟨cyclesToAnswer m.core.queue m.wait m.served, fun es hes hn =>
      Clocked.head_answered hes (List.append_nil _).symm hn⟩
  · intro m
    let n := cyclesToAnswer m.core.queue m.wait m.served
    have hfree : Event.reset ∉ List.replicate n .cycle := by simp [List.mem_replicate]
    have answered : m.core.queue.map responseTo <+: (m.responses (List.replicate n .cycle)).map some :=
      Clocked.head_answered hfree (List.append_nil _).symm (by rw [List.count_replicate_self])
    have empty : (m.run (List.replicate n .cycle)).core.queue = [] :=
      Clocked.queue_run_cycles (by simpa using answered.length_le)
    have conserve := m.responses_conserve hfree
    rw [empty, acceptedBy_cycles, List.filterMap_nil, List.append_nil, List.append_nil] at conserve
    exact ⟨n, empty, conserve⟩

end Sys2Proof.Machine

/-! ## DECODE (42_decode.md) -/

namespace Sys2Proof.Machine

open Sys2Proof.Safety

section
variable (f : DecFormat)

theorem exec_decodeDec : exec (.decodeDec f) = answerDecode f := by cases f <;> rfl

theorem exec_isZeroDec : exec (.isZeroDec f) = answerClass f (isZeroValue f) := by cases f <;> rfl

theorem exec_isFiniteDec : exec (.isFiniteDec f) = answerClass f isFiniteValue := by cases f <;> rfl

theorem exec_isNormalDec : exec (.isNormalDec f) = answerClass f (isNormalValue f) := by cases f <;> rfl

end

/-- The class and value of a word by the absolute bit positions of 30_encoding.md R82 to R86. -/
def valueOf (f : DecFormat) (x : Nat) : BidValue :=
  if top5Of f x = 31 then
    if kindOf f x = 1 then .signalingNaN (payloadOf f x) else .quietNaN (payloadOf f x)
  else if top5Of f x = 30 then .infinite
  else .finite (expOf f x) (coeffOf f x)

section
variable {f : DecFormat} {x : Nat}

theorem valueOf_of_signaling (h : top5Of f x = 31) (hk : kindOf f x = 1) :
    valueOf f x = .signalingNaN (payloadOf f x) := by rw [valueOf, if_pos h, if_pos hk]

theorem valueOf_of_quiet (h : top5Of f x = 31) (hk : kindOf f x ≠ 1) : valueOf f x = .quietNaN (payloadOf f x) := by
  rw [valueOf, if_pos h, if_neg hk]

theorem valueOf_of_infinite (h : top5Of f x = 30) : valueOf f x = .infinite := by
  rw [valueOf, if_neg (by rw [h]; decide), if_pos h]

theorem valueOf_of_finite (h : FiniteWord f x) : valueOf f x = .finite (expOf f x) (coeffOf f x) := by
  rw [valueOf, if_neg (top5Of_ne_nan_of_finiteWord h), if_neg (top5Of_ne_inf_of_finiteWord h)]

end

/-- The decoded view of an operand is that of its number. -/
theorem decodeBid_decimalOperand (f : DecFormat) (c : Command) :
    decodeBid f (decimalOperand f c) = ⟨signOf f (wordX f c), valueOf f (wordX f c)⟩ := by
  obtain ⟨hs, hv⟩ := decodeBid_cases f c
  have value : (decodeBid f (decimalOperand f c)).value = valueOf f (wordX f c) := by
    obtain ⟨ht, hk, hv⟩ | ⟨ht, hk, hv⟩ | ⟨ht, hv⟩ | ⟨hfin, hv⟩ := hv
    · rw [hv, valueOf_of_signaling ht hk]
    · rw [hv, valueOf_of_quiet ht (by rw [hk]; decide)]
    · rw [hv, valueOf_of_infinite ht]
    · rw [hv, valueOf_of_finite hfin]
  rw [← hs, ← value]

/-- The four classes, once for a number. -/
theorem top5Of_cases (f : DecFormat) (x : Nat) : top5Of f x = 31 ∨ top5Of f x = 30 ∨ FiniteWord f x := by
  have := top5Of_lt f x
  unfold FiniteWord
  omega

/-- What DECODE answers for a word. -/
theorem exec_decodeDec_cons (f : DecFormat) (c : Command) (rest : List Command) (p : Option Response) :
    exec (.decodeDec f) ⟨c :: rest, p⟩ =
      .next (okState rest (Decoded.outputs f ⟨signOf f (wordX f c), valueOf f (wordX f c)⟩)) := by
  rw [exec_decodeDec, answerDecode_cons, decodeBid_decimalOperand]

/-- What a class predicate answers for a word. -/
theorem exec_class_cons {i : Instr} {f : DecFormat} {q : BidValue → Bool} (hi : exec i = answerClass f q) (c : Command)
    (rest : List Command) (p : Option Response) :
    exec i ⟨c :: rest, p⟩ = .next (okState rest (onlyT (q (valueOf f (wordX f c))))) := by
  rw [hi, answerClass_cons, decodeBid_decimalOperand]

/-! The outputs of DECODE for each class. -/

section
variable {f : DecFormat} {x : Nat}

theorem outputs_of_nan (h : top5Of f x = 31) :
    Decoded.outputs f ⟨signOf f x, valueOf f x⟩ =
      ⟨BitVec.ofNat 256 (payloadOf f x), false, signOf f x, if kindOf f x = 1 then 3 else 2, 0, false⟩ := by
  by_cases hk : kindOf f x = 1
  · rw [valueOf_of_signaling h hk, if_pos hk]
    rfl
  · rw [valueOf_of_quiet h hk, if_neg hk]
    rfl

theorem outputs_of_infinite (h : top5Of f x = 30) :
    Decoded.outputs f ⟨signOf f x, valueOf f x⟩ = ⟨0, false, signOf f x, 1, 0, false⟩ := by
  rw [valueOf_of_infinite h]
  rfl

theorem outputs_of_finite (h : FiniteWord f x) :
    Decoded.outputs f ⟨signOf f x, valueOf f x⟩ =
      ⟨BitVec.ofNat 256 (coeffOf f x), false, signOf f x, 0, BitVec.ofNat 32 (expOf f x),
        decide ((row f).cmax < coeffOf f x)⟩ := by
  rw [valueOf_of_finite h, ← maxCoeff_eq]
  rfl

end

/-- Settles O23: both kinds of NaN carry their payload. -/
theorem decodeOfNan : Obligations.DecodeOfNan := by
  constructor
  · intro f c rest p h
    rw [exec_decodeDec_cons, outputs_of_nan h]
  · exact encodedDec_of_decodeFields (by decide) fun f => by cases f <;> rfl

/-- Settles O24: an infinity carries neither exponent nor coefficient. -/
theorem decodeOfInfinite : Obligations.DecodeOfInfinite := by
  intro f c rest p h
  rw [exec_decodeDec_cons, outputs_of_infinite h]

/-- Settles O25: both forms give E and C of the absolute bit positions. -/
theorem decodeOfFinite : Obligations.DecodeOfFinite := by
  intro f c rest p h
  rw [exec_decodeDec_cons, outputs_of_finite h]

/-- A coefficient fits R. -/
theorem coeffOf_toNat (f : DecFormat) (x : Nat) : (BitVec.ofNat 256 (coeffOf f x)).toNat = coeffOf f x := by
  have fits : 2 ^ ((row f).t + 4) ≤ 2 ^ 256 := Nat.pow_le_pow_right (by decide) (by cases f <;> decide)
  exact (BitVec.toNat_ofNat _ _).trans (Nat.mod_eq_of_lt ((coeffOf_lt f x).trans_le fits))

/-- Settles O26: only a Finite word has an exponent, and E and C are below their bounds in both forms. -/
theorem decodedFieldsInRange : Obligations.DecodedFieldsInRange := by
  intro f c rest p
  refine ⟨_, exec_decodeDec_cons f c rest p, ?_⟩
  obtain ht | ht | hfin := top5Of_cases f (wordX f c)
  · rw [outputs_of_nan ht]
    refine ⟨Nat.zero_le _, fun hcls => ?_⟩
    dsimp only at hcls
    split at hcls <;> cases hcls
  · rw [outputs_of_infinite ht]
    exact ⟨Nat.zero_le _, nofun⟩
  · rw [outputs_of_finite hfin]
    refine ⟨(Nat.mod_le _ _).trans (expOf_le f _ hfin), fun _ => ?_⟩
    exact (coeffOf_toNat f _).trans_lt (coeffOf_lt f _)

/-! ## Zero, finite and normal words in the bits of the word (43_classify.md R180, R185, R186) -/

section
variable (f : DecFormat) (x : Nat)

/-- A test that no infinity and no NaN passes, and a Finite word passes exactly with `P`. -/
theorem test_valueOf_iff {q : BidValue → Bool} {P : Prop} (hinf : q .infinite = false)
    (hquiet : ∀ n, q (.quietNaN n) = false) (hsignaling : ∀ n, q (.signalingNaN n) = false)
    (hfinite : q (.finite (expOf f x) (coeffOf f x)) = true ↔ P) : q (valueOf f x) = true ↔ FiniteWord f x ∧ P := by
  obtain ht | ht | hfin := top5Of_cases f x
  · have hnot : ¬ FiniteWord f x := fun h => top5Of_ne_nan_of_finiteWord h ht
    by_cases hk : kindOf f x = 1
    · simp [valueOf_of_signaling ht hk, hsignaling, hnot]
    · simp [valueOf_of_quiet ht hk, hquiet, hnot]
  · have hnot : ¬ FiniteWord f x := fun h => top5Of_ne_inf_of_finiteWord h ht
    simp [valueOf_of_infinite ht, hinf, hnot]
  · simp [valueOf_of_finite hfin, hfinite, hfin]

theorem isFiniteValue_valueOf : isFiniteValue (valueOf f x) = true ↔ FiniteWord f x :=
  (test_valueOf_iff f x rfl (fun _ => rfl) (fun _ => rfl) (iff_true_intro rfl)).trans (and_iff_left trivial)

theorem zeroCoeff_coeffOf : zeroCoeff f (coeffOf f x) = true ↔ coeffOf f x = 0 ∨ (row f).cmax < coeffOf f x := by
  rw [zeroCoeff_eq_true, maxCoeff_eq]

theorem isZeroValue_valueOf : isZeroValue f (valueOf f x) = true ↔ ZeroWord f x :=
  test_valueOf_iff f x rfl (fun _ => rfl) (fun _ => rfl) (zeroCoeff_coeffOf f x)

theorem zeroWord_iff_of_finite {f : DecFormat} {x : Nat} (h : FiniteWord f x) :
    ZeroWord f x ↔ zeroCoeff f (coeffOf f x) = true := by
  rw [zeroCoeff_coeffOf, ZeroWord, and_iff_right h]

theorem precision_eq : f.precision = (row f).p := by cases f <;> rfl

/-- The digit count of a canonical non-zero coefficient is the comparison of powers (43_classify.md R186). -/
theorem isNormalValue_finite :
    isNormalValue f (.finite (expOf f x) (coeffOf f x)) = true ↔
      ¬ zeroCoeff f (coeffOf f x) = true ∧ 10 ^ ((row f).p - 1) ≤ coeffOf f x * 10 ^ expOf f x := by
  rw [isNormalValue, Bool.and_eq_true, Bool.not_eq_true', Bool.not_eq_true, decide_eq_true_iff, precision_eq]
  refine and_congr_right fun hzero => ?_
  obtain ⟨hpos, hle⟩ := zeroCoeff_eq_false.1 hzero
  exact digits10_add_le_iff _ _ hpos (hle.trans_lt (maxCoeff_lt f)) (by cases f <;> decide)

theorem isNormalValue_valueOf : isNormalValue f (valueOf f x) = true ↔ NormalWord f x := by
  rw [test_valueOf_iff f x rfl (fun _ => rfl) (fun _ => rfl) (isNormalValue_finite f x), NormalWord]
  exact and_congr_right fun hfin => by rw [zeroWord_iff_of_finite hfin]

end

/-- Settles O30: a Finite word reads as zero by its coefficient, no other word does. -/
theorem isZeroCountsNonCanonical : Obligations.IsZeroCountsNonCanonical := by
  constructor
  · intro f c rest p
    exact ⟨_, exec_class_cons (exec_isZeroDec f) c rest p, isZeroValue_valueOf f _⟩
  · exact encodedDec_of_decodeFields (by decide) fun f => by cases f <;> rfl

/-- Settles O35: the test is that of the class alone. -/
theorem isFiniteIsTheFiniteClass : Obligations.IsFiniteIsTheFiniteClass := by
  constructor
  · intro f c rest p
    exact ⟨_, exec_class_cons (exec_isFiniteDec f) c rest p, isFiniteValue_valueOf f _⟩
  · exact encodedDec_of_decodeFields (by decide) fun f => by cases f <;> rfl

/-- Settles O36: d digits are a number from 10^(d-1) up, and C * 10^E has E digits more than C. -/
theorem isNormalComparesPowers : Obligations.IsNormalComparesPowers := by
  constructor
  · intro f c rest p
    exact ⟨_, exec_class_cons (exec_isNormalDec f) c rest p, isNormalValue_valueOf f _⟩
  · exact encodedDec_of_decodeFields (by decide) fun f => by cases f <;> rfl

section
variable (f : DecFormat) (s : Bool) (x : Nat)

theorem outputs_dcls (d : Decoded) : (d.outputs f).dcls = d.value.code := by
  obtain ⟨_, v⟩ := d
  cases v <;> rfl

/-- DCLS 0 reports the Finite words. -/
theorem outputs_dcls_eq_zero_iff : (Decoded.outputs f ⟨s, valueOf f x⟩).dcls = 0 ↔ FiniteWord f x := by
  rw [outputs_dcls, ← beq_iff_eq]
  exact (test_valueOf_iff f x (q := fun v => v.code == 0) rfl (fun _ => rfl) (fun _ => rfl)
    (iff_true_intro rfl)).trans (and_iff_left trivial)

/-- DNC reports the Finite words with a coefficient above Cmax. -/
theorem outputs_dnc_iff :
    (Decoded.outputs f ⟨s, valueOf f x⟩).dnc = true ↔ FiniteWord f x ∧ (row f).cmax < coeffOf f x := by
  refine test_valueOf_iff f x (q := fun v => (Decoded.outputs f ⟨s, v⟩).dnc) rfl (fun _ => rfl) (fun _ => rfl) ?_
  rw [← maxCoeff_eq]
  exact decide_eq_true_iff

theorem ofNat_coeffOf_eq_zero_iff : BitVec.ofNat 256 (coeffOf f x) = 0 ↔ coeffOf f x = 0 := by
  rw [← BitVec.toNat_inj, coeffOf_toNat]
  rfl

theorem cmax_eq : (row f).cmax = 10 ^ (row f).p - 1 := by cases f <;> rfl

end

/-- Settles O29: DECODE reports the class and the coefficient that ISZERO tests, and the coefficient fits R. -/
theorem isZeroFollowsTheDecodedView : Obligations.IsZeroFollowsTheDecodedView := by
  constructor
  · intro f c rest p
    refine ⟨_, _, exec_decodeDec_cons f c rest p, exec_class_cons (exec_isZeroDec f) c rest p, ?_⟩
    rw [isZeroValue_valueOf, outputs_dcls_eq_zero_iff, ZeroWord]
    refine and_congr_right fun hfin => ?_
    rw [outputs_of_finite hfin, ofNat_coeffOf_eq_zero_iff, coeffOf_toNat, cmax_eq]
  · exact encodedDec_of_decodeFields (by decide) fun f => by cases f <;> rfl

/-- Settles O27: DNC reports a coefficient above Cmax, which reads as zero. -/
theorem nonCanonicalReadsAsZero : Obligations.NonCanonicalReadsAsZero := by
  intro f c rest p
  refine ⟨_, _, exec_decodeDec_cons f c rest p, exec_class_cons (exec_isZeroDec f) c rest p, fun hdnc => ?_⟩
  obtain ⟨hfin, habove⟩ := (outputs_dnc_iff f _ _).1 hdnc
  exact (isZeroValue_valueOf f _).2 ⟨hfin, .inr habove⟩

/-- The implicit leading bit of form 2 alone exceeds Cmax in the two wide formats (30_encoding.md R85). -/
theorem cmax_lt_coeffOf_of_form2 {f : DecFormat} {x : Nat} (hf : f = .d128 ∨ f = .d256) (h : Form2 f x) :
    (row f).cmax < coeffOf f x := by
  have hlead : (row f).cmax < 2 ^ (row f).e1 := by rcases hf with rfl | rfl <;> decide
  have htag : x / 2 ^ (row f).tag % 4 = 3 := h
  rw [coeffOf, if_pos htag]
  exact hlead.trans_le (Nat.le_add_right _ _)

/-- Settles O28: such a word has DNC 1, and so it reads as zero. -/
theorem wideForm2IsNonCanonical : Obligations.WideForm2IsNonCanonical := by
  intro f c rest p hf hfin hform
  have habove := cmax_lt_coeffOf_of_form2 hf hform
  refine ⟨⟨_, exec_decodeDec_cons f c rest p, (outputs_dnc_iff f _ _).2 ⟨hfin, habove⟩⟩, ?_⟩
  rw [exec_class_cons (exec_isZeroDec f), (isZeroValue_valueOf f _).2 ⟨hfin, .inr habove⟩]

/-! ## The magnitude of a normal word (43_classify.md R186, 00_scope.md R8) -/

/-- emin and the bias are the two exponents of the smallest normal number. -/
theorem emin_add_bias (f : DecFormat) : (row f).emin + (row f).bias = (((row f).p - 1 : Nat) : Int) := by
  cases f <;> rfl

/-- Comparing magnitudes is comparing the powers, both scaled by the bias. -/
theorem ten_zpow_emin_le_iff (f : DecFormat) (C E : Nat) :
    (10 : ℚ) ^ (row f).emin ≤ (C : ℚ) * 10 ^ ((E : ℤ) - (row f).bias) ↔ 10 ^ ((row f).p - 1) ≤ C * 10 ^ E := by
  have hscale : (0 : ℚ) < 10 ^ ((row f).bias : ℤ) := by positivity
  rw [← mul_le_mul_iff_left₀ hscale, mul_assoc, ← zpow_add₀ (by norm_num), ← zpow_add₀ (by norm_num),
    sub_add_cancel, emin_add_bias, zpow_natCast, zpow_natCast]
  exact_mod_cast Iff.rfl

/-- Settles O37: the comparison of powers, in rational numbers. -/
theorem normalMeansMagnitudeAtLeastTenToEmin : Obligations.NormalMeansMagnitudeAtLeastTenToEmin := by
  intro f c rest p
  refine ⟨_, exec_class_cons (exec_isNormalDec f) c rest p, ?_⟩
  rw [isNormalValue_valueOf, NormalWord, ten_zpow_emin_le_iff]

/-! ## What the predicates have in common (43_classify.md R179, R187) -/

/-- Each predicate is a test of class and value that does not read the payload of a NaN. -/
theorem predicate_is_test {q : DecFormat → Instr} (hq : q ∈ predicates) (f : DecFormat) :
    ∃ test : BidValue → Bool, exec (q f) = answerClass f test ∧
      (∀ m n, test (.quietNaN m) = test (.quietNaN n)) ∧ ∀ m n, test (.signalingNaN m) = test (.signalingNaN n) := by
  fin_cases hq
  · exact ⟨_, exec_isZeroDec f, fun _ _ => rfl, fun _ _ => rfl⟩
  · exact ⟨_, exec_isNanDec f, fun _ _ => rfl, fun _ _ => rfl⟩
  · exact ⟨_, exec_isQNanDec f, fun _ _ => rfl, fun _ _ => rfl⟩
  · exact ⟨_, exec_isSNanDec f, fun _ _ => rfl, fun _ _ => rfl⟩
  · exact ⟨_, exec_isInfDec f, fun _ _ => rfl, fun _ _ => rfl⟩
  · exact ⟨_, exec_isFiniteDec f, fun _ _ => rfl, fun _ _ => rfl⟩
  · exact ⟨_, exec_isNormalDec f, fun _ _ => rfl, fun _ _ => rfl⟩

/-- A bit field below bit m is that of the low m bits. -/
theorem field_mod_two_pow {lo n m : Nat} (x : Nat) (h : lo + n ≤ m) :
    x % 2 ^ m / 2 ^ lo % 2 ^ n = x / 2 ^ lo % 2 ^ n := by
  rw [← Nat.mod_mul_right_div_self, ← Nat.mod_mul_right_div_self, ← Nat.pow_add,
    Nat.mod_mod_of_dvd x (Nat.pow_dvd_pow 2 h)]

section
variable (f : DecFormat) (x : Nat)

/-! No field but the sign lies at bit k-1. -/

theorem top5Of_mod : top5Of f (x % 2 ^ ((row f).k - 1)) = top5Of f x :=
  field_mod_two_pow (n := 5) x (by cases f <;> decide)

theorem kindOf_mod : kindOf f (x % 2 ^ ((row f).k - 1)) = kindOf f x :=
  field_mod_two_pow (n := 1) x (by cases f <;> decide)

theorem tag_mod : x % 2 ^ ((row f).k - 1) / 2 ^ (row f).tag % 4 = x / 2 ^ (row f).tag % 4 :=
  field_mod_two_pow (n := 2) x (by cases f <;> decide)

theorem payloadOf_mod : payloadOf f (x % 2 ^ ((row f).k - 1)) = payloadOf f x :=
  Nat.mod_mod_of_dvd x (Nat.pow_dvd_pow 2 (by cases f <;> decide))

theorem expOf_mod : expOf f (x % 2 ^ ((row f).k - 1)) = expOf f x := by
  rw [expOf, expOf, tag_mod, field_mod_two_pow x (by cases f <;> decide),
    field_mod_two_pow x (by cases f <;> decide)]

theorem coeffOf_mod : coeffOf f (x % 2 ^ ((row f).k - 1)) = coeffOf f x := by
  rw [coeffOf, coeffOf, tag_mod, Nat.mod_mod_of_dvd x (Nat.pow_dvd_pow 2 (by cases f <;> decide)),
    Nat.mod_mod_of_dvd x (Nat.pow_dvd_pow 2 (by cases f <;> decide))]

theorem valueOf_mod : valueOf f (x % 2 ^ ((row f).k - 1)) = valueOf f x := by
  simp only [valueOf, top5Of_mod, kindOf_mod, payloadOf_mod, expOf_mod, coeffOf_mod]

end

/-- Settles O38: the sign is in no field that a value is read from, and the tests read neither a payload nor the low
bits of an infinity. -/
theorem predicatesIgnoreSignAndPayload : Obligations.PredicatesIgnoreSignAndPayload := by
  intro q hq f c d rest p rest' p'
  obtain ⟨test, htest, hquiet, hsignaling⟩ := predicate_is_test hq f
  refine ⟨_, _, exec_class_cons htest c rest p, exec_class_cons htest d rest' p', ?_⟩
  rintro (hlow | ⟨hc, hd, hkind⟩ | ⟨hc, hd⟩)
  · rw [← valueOf_mod f (wordX f c), hlow, valueOf_mod]
  · by_cases hk : kindOf f (wordX f c) = 1
    · rw [valueOf_of_signaling hc hk, valueOf_of_signaling hd (hkind ▸ hk)]
      exact hsignaling _ _
    · rw [valueOf_of_quiet hc hk, valueOf_of_quiet hd (hkind ▸ hk)]
      exact hquiet _ _
  · rw [valueOf_of_infinite hc, valueOf_of_infinite hd]

/-- The tests split the values into four classes; the two kinds split the NaNs, and a normal value is a finite one that
does not read as zero. -/
theorem tests_partition (f : DecFormat) (v : BidValue) :
    [isZeroValue f v, isFiniteValue v && !isZeroValue f v, isInfValue v, isNanValue v].count true = 1 ∧
    isNanValue v = (isQNanValue v || isSNanValue v) ∧ (isQNanValue v && isSNanValue v) = false ∧
    (isNormalValue f v = true → isFiniteValue v = true ∧ isZeroValue f v = false) := by
  cases v with
  | finite e c =>
    cases hz : zeroCoeff f c <;>
      simp [isZeroValue, isFiniteValue, isInfValue, isNanValue, isQNanValue, isSNanValue, isNormalValue, hz]
  | infinite => exact ⟨rfl, rfl, rfl, nofun⟩
  | quietNaN n => exact ⟨rfl, rfl, rfl, nofun⟩
  | signalingNaN n => exact ⟨rfl, rfl, rfl, nofun⟩

/-- Settles O39: the seven predicates are tests of one value. -/
theorem classesPartitionTheWords : Obligations.ClassesPartitionTheWords := by
  intro f c rest p
  exact ⟨_, _, _, _, _, _, _, exec_class_cons (exec_isZeroDec f) c rest p, exec_class_cons (exec_isNanDec f) c rest p,
    exec_class_cons (exec_isQNanDec f) c rest p, exec_class_cons (exec_isSNanDec f) c rest p,
    exec_class_cons (exec_isInfDec f) c rest p, exec_class_cons (exec_isFiniteDec f) c rest p,
    exec_class_cons (exec_isNormalDec f) c rest p, tests_partition f (valueOf f (wordX f c))⟩

/-- Settles O22: each formula is computed in each format. -/
theorem formatFormulasGiveTheTable : Obligations.FormatFormulasGiveTheTable := by
  intro f
  cases f <;> decide

end Sys2Proof.Machine

/-! ## The constructors (44_constants.md) -/

namespace Sys2Proof.Machine

open Sys2Proof.Safety

/-! Each constructor is the constant of its pattern (R200 to R209). -/

section
variable (f : DecFormat)

theorem exec_zeroDec : exec (.zeroDec f) = answerConstant f 0 := by cases f <;> rfl

theorem exec_mZeroDec : exec (.mZeroDec f) = answerConstant f (signPattern f) := by cases f <;> rfl

theorem exec_infDec : exec (.infDec f) = answerConstant f (infPattern f) := by cases f <;> rfl

theorem exec_mInfDec : exec (.mInfDec f) = answerConstant f (signPattern f + infPattern f) := by cases f <;> rfl

theorem exec_qNanDec : exec (.qNanDec f) = answerConstant f (qNanPattern f) := by cases f <;> rfl

theorem exec_mQNanDec : exec (.mQNanDec f) = answerConstant f (signPattern f + qNanPattern f) := by cases f <;> rfl

theorem exec_sNanDec : exec (.sNanDec f) = answerConstant f (sNanPattern f) := by cases f <;> rfl

theorem exec_mSNanDec : exec (.mSNanDec f) = answerConstant f (signPattern f + sNanPattern f) := by cases f <;> rfl

theorem exec_minDec : exec (.minDec f) = answerConstant f (signPattern f + maxPattern f) := by cases f <;> rfl

theorem exec_maxDec : exec (.maxDec f) = answerConstant f (maxPattern f) := by cases f <;> rfl

end

/-- A row of the table of R211: the word of the operation code is the constructor's, its pattern is the table's
constant, and the constant fits the format. -/
structure ConstantRow (opc : Nat) (constructor : DecFormat → Instr) (pattern word : DecFormat → Nat) : Prop where
  opc_lt : opc < 256
  encoded : ∀ f, decodeFields opc (decWc f) 0 0 = .ok (constructor f)
  exec_eq : ∀ f, exec (constructor f) = answerConstant f (pattern f)
  word_eq : ∀ f, (BitVec.ofNat f.width (pattern f)).toNat = word f

/-- Every row of the table is one. -/
theorem constantRow {e : Nat × (DecFormat → Instr) × (DecFormat → Nat)} (he : e ∈ constants) :
    ∃ pattern, ConstantRow e.1 e.2.1 pattern e.2.2 := by
  fin_cases he
  · exact ⟨_, by decide, fun f => by cases f <;> rfl, exec_zeroDec, fun f => by cases f <;> rfl⟩
  · exact ⟨_, by decide, fun f => by cases f <;> rfl, exec_mZeroDec, fun f => by cases f <;> rfl⟩
  · exact ⟨_, by decide, fun f => by cases f <;> rfl, exec_infDec, fun f => by cases f <;> rfl⟩
  · exact ⟨_, by decide, fun f => by cases f <;> rfl, exec_mInfDec, fun f => by cases f <;> rfl⟩
  · exact ⟨_, by decide, fun f => by cases f <;> rfl, exec_qNanDec, fun f => by cases f <;> rfl⟩
  · exact ⟨_, by decide, fun f => by cases f <;> rfl, exec_mQNanDec, fun f => by cases f <;> rfl⟩
  · exact ⟨_, by decide, fun f => by cases f <;> rfl, exec_sNanDec, fun f => by cases f <;> rfl⟩
  · exact ⟨_, by decide, fun f => by cases f <;> rfl, exec_mSNanDec, fun f => by cases f <;> rfl⟩
  · exact ⟨_, by decide, fun f => by cases f <;> rfl, exec_minDec, fun f => by cases f <;> rfl⟩
  · exact ⟨_, by decide, fun f => by cases f <;> rfl, exec_maxDec, fun f => by cases f <;> rfl⟩

theorem ConstantRow.exec_cons {opc : Nat} {constructor : DecFormat → Instr} {pattern word : DecFormat → Nat}
    (h : ConstantRow opc constructor pattern word) (f : DecFormat) (c : Command) (rest : List Command)
    (p : Option Response) : exec (constructor f) ⟨c :: rest, p⟩ = .next (okState rest (onlyR (word f))) := by
  rw [h.exec_eq, answerConstant_cons, h.word_eq]

/-- Settles O40: each pattern is the table's constant, and no constructor reads an operand. -/
theorem constructorsGiveTheTable : Obligations.ConstructorsGiveTheTable := by
  intro e he
  obtain ⟨pattern, hrow⟩ := constantRow he
  exact ⟨encodedDec_of_decodeFields hrow.opc_lt hrow.encoded, hrow.exec_cons⟩

/-! The constants read back as operands. -/

theorem constant_lt {e : Nat × (DecFormat → Instr) × (DecFormat → Nat)} (he : e ∈ constants) (f : DecFormat) :
    e.2.2 f < 2 ^ (row f).k := by
  obtain ⟨pattern, hrow⟩ := constantRow he
  have width_eq : f.width = (row f).k := by cases f <;> rfl
  rw [← hrow.word_eq, ← width_eq]
  exact BitVec.isLt _

/-- An operand that holds a word of the format is that word. -/
theorem wordX_of_operand {f : DecFormat} {v : Nat} {d : Command} (hv : v < 2 ^ (row f).k)
    (hd : d.a = BitVec.ofNat 256 v) : wordX f d = v := by
  have fits : 2 ^ (row f).k ≤ 2 ^ 256 := Nat.pow_le_pow_right (by decide) (by cases f <;> decide)
  rw [wordX, hd, BitVec.toNat_ofNat, Nat.mod_eq_of_lt (hv.trans_le fits), Nat.mod_eq_of_lt hv]

/-- ISNAN of a word that an operand holds. -/
theorem exec_isNanDec_of_operand {f : DecFormat} {v : Nat} {d : Command} (hv : v < 2 ^ (row f).k)
    (hd : d.a = BitVec.ofNat 256 v) (rest : List Command) (p : Option Response) :
    exec (.isNanDec f) ⟨d :: rest, p⟩ = .next (okState rest (onlyT (decide (top5Of f v = 31)))) := by
  have test : isNanValue (valueOf f v) = decide (top5Of f v = 31) := by
    have h := isNanValue_decodeBid f d
    rw [decodeBid_decimalOperand, wordX_of_operand hv hd] at h
    exact Bool.eq_iff_iff.2 (h.trans decide_eq_true_iff.symm)
  rw [exec_class_cons (exec_isNanDec f), wordX_of_operand hv hd, test]

/-- Settles O41: the constants of the four NaN rows of the table have top5 11111, the other six have not. -/
theorem constructorsClassifyAsTheSourceTests : Obligations.ConstructorsClassifyAsTheSourceTests := by
  intro f c rest p e he
  obtain ⟨r, hr, hconstructor, htest⟩ :
      ∃ r ∈ constants, r.2.1 = e.1 ∧ decide (top5Of f (r.2.2 f) = 31) = e.2 := by
    fin_cases he
    · exact ⟨constants[0], List.getElem_mem _, rfl, by cases f <;> rfl⟩
    · exact ⟨constants[1], List.getElem_mem _, rfl, by cases f <;> rfl⟩
    · exact ⟨constants[2], List.getElem_mem _, rfl, by cases f <;> rfl⟩
    · exact ⟨constants[3], List.getElem_mem _, rfl, by cases f <;> rfl⟩
    · exact ⟨constants[8], List.getElem_mem _, rfl, by cases f <;> rfl⟩
    · exact ⟨constants[9], List.getElem_mem _, rfl, by cases f <;> rfl⟩
    · exact ⟨constants[4], List.getElem_mem _, rfl, by cases f <;> rfl⟩
    · exact ⟨constants[5], List.getElem_mem _, rfl, by cases f <;> rfl⟩
    · exact ⟨constants[6], List.getElem_mem _, rfl, by cases f <;> rfl⟩
    · exact ⟨constants[7], List.getElem_mem _, rfl, by cases f <;> rfl⟩
  rw [← hconstructor, ← htest]
  exact ⟨r.2.2 f, (constructorsGiveTheTable r hr).2 f c rest p, fun d hd =>
    exec_isNanDec_of_operand (constant_lt hr f) hd rest p⟩

/-- Settles O42: the constants of MAX and MIN read back as Cmax and Ebmax, in the one form that holds Cmax. -/
theorem maxAndMinDecodeToTheLargestMagnitude : Obligations.MaxAndMinDecodeToTheLargestMagnitude := by
  intro f c rest p e he
  obtain ⟨r, hr, hconstructor, houtputs⟩ :
      ∃ r ∈ constants, r.2.1 = e.1 ∧ Decoded.outputs f ⟨signOf f (r.2.2 f), valueOf f (r.2.2 f)⟩ =
        ⟨BitVec.ofNat 256 (row f).cmax, false, e.2, 0, BitVec.ofNat 32 (row f).ebmax, false⟩ := by
    fin_cases he
    · exact ⟨constants[9], List.getElem_mem _, rfl, by cases f <;> rfl⟩
    · exact ⟨constants[8], List.getElem_mem _, rfl, by cases f <;> rfl⟩
  rw [← hconstructor]
  refine ⟨r.2.2 f, (constructorsGiveTheTable r hr).2 f c rest p, fun d hd => ?_⟩
  rw [exec_decodeDec_cons, wordX_of_operand (constant_lt hr f) hd, houtputs]

end Sys2Proof.Machine
